-- ==== Sys2Proof/Word.lean ====
section
/-!
DEFINITION. The sizes of 00_scope.md R7 and the words of the OOK demodulator built from them: a duration, the 35-bit
transaction word (30_encoding.md R43), the 7-bit automaton selector (30_encoding.md R47), and a pin level
(00_scope.md R10).
-/

namespace Sys2Proof

/-- `FRAME_BITS` (R7): the bits of a frame. -/
abbrev Config.frameBits : Nat := 36

/-- `DUR_BITS` (R7, decision D3): the width of `Duration`. -/
abbrev Config.durBits : Nat := 32

/-- `TICK` (R7, decision D3): the microseconds of one count of the external counter. -/
abbrev Config.tick : Nat := 1

/-- `PAYLOAD_CAP` (R7, decision D5): the number of cells of `PBUF`. -/
abbrev Config.payloadCap : Nat := 36

/-- `LEN_BITS` (R7, decision D5): the width of `S.plen`. -/
abbrev Config.lenBits : Nat := 16

/-- `2^LEN_BITS - 1`, the value at which `S.plen` saturates (R17). -/
abbrev Config.lenMax : Nat := 2 ^ Config.lenBits - 1

/-- A duration or counter reading: an unsigned count of microseconds (R7 `DUR_BITS`; decision D3). -/
abbrev Duration := BitVec Config.durBits

/-- A transaction word: `K` = bits 34:33, `L` = bit 32, `V` = bits 31:0 (R43). -/
abbrev TxnWord := BitVec 35

/-- The automaton selector: `s` = bits 6:5, then `p`, `hS`, `hP`, `hE`, `hB` from bit 4 down to bit 0 (R47). -/
abbrev Selector := BitVec 7

/-- A pin level (R10). -/
inductive Level where
  | low
  | high
  deriving DecidableEq, Repr, Inhabited

/-- `not L`: the level an edge leaves, when `L` is the level it goes to (R10, R65). -/
def Level.flip : Level → Level
  | .low => .high
  | .high => .low

end Sys2Proof
end

