-- ==== Sys2Proof/Config.lean ====
section
/-!
DEFINITION. What an implementation fixes (00_scope.md R7, R8) and the values the spec leaves unspecified
(93_implementation_defined.md U1, U2). The sizes the types are built from stand in Word.lean, the values of the whole
record in Machine/Classifier.lean (`Machine.params`); the constants without a body here are open: nothing in Lean can
evaluate them.
-/

namespace Sys2Proof

/-- The parameters of R7, each under its own name: "A model takes them as a configuration record". A corrected bound
changes in one place, and the other observed variant (`ZERO_MAX` = 1000, R62, U11) is another record. -/
structure Params where
  syncMin : Duration
  syncMax : Duration
  preMin : Duration
  preMax : Duration
  eofMin : Duration
  eofMax : Duration
  oneMin : Duration
  oneMax : Duration
  zeroMin : Duration
  zeroMax : Duration
  frameBits : Nat
  durBits : Nat
  tick : Nat
  payloadCap : Nat
  lenBits : Nat
  cfgChannel : BitVec 8
  counterBits : Nat
  deriving DecidableEq, Repr

/-- `BIT_MIN = ZERO_MIN` (R7). -/
def Params.bitMin (c : Params) : Duration := c.zeroMin

/-- `BIT_MAX = ONE_MAX` (R7). -/
def Params.bitMax (c : Params) : Duration := c.oneMax

/-- `CFG_CHANNEL` (R7, R21, decision D8): an OPEN launch parameter, an unsigned 8-bit integer. It has no body:
no value of it is chosen. (Log entry 3.) -/
opaque Config.cfgChannel : BitVec 8

/-- The open part of `COUNTER_BITS`; it has no body. (Log entry 7.) -/
opaque Config.counterBitsOpen : Nat

/-- `COUNTER_BITS` (R7, R8, decision D21): OPEN, at least 13 and at most `DUR_BITS`. The platform sets it; this
constant can be each of 13..32 and nothing else. Only the host-side counter reads it. (Log entry 7.) -/
def Config.counterBits : Nat := 13 + Config.counterBitsOpen % 20

/-- The level `S.prev_level` holds after the RESET numbered by the argument: "S.prev_level becomes unspecified"
(70_reset_and_hazards.md R113, U1). A free value: it has no body. (Log entry 2.) -/
opaque Config.unspecifiedLevel : Nat → Level

/-- The contents of `PBUF` cell `k` after the RESET numbered by the first argument: "PBUF cells become
unspecified" (R113, U2). A free value: it has no body. (Log entry 2.) -/
opaque Config.unspecifiedCell : Nat → Nat → Duration

/-- The constraints of R8 on a set of parameters: every window is an interval, the sync window does not meet the
combined bit range `[BIT_MIN, BIT_MAX]`, nor does the end-of-frame window, the saturated length is not that of a frame,
the buffer holds a frame, and a counter reading fits a duration; and R7's floor of 13 on the counter's width. -/
structure Params.Valid (c : Params) : Prop where
  sync_ordered : c.syncMin ≤ c.syncMax
  pre_ordered : c.preMin ≤ c.preMax
  eof_ordered : c.eofMin ≤ c.eofMax
  one_ordered : c.oneMin ≤ c.oneMax
  zero_ordered : c.zeroMin ≤ c.zeroMax
  sync_misses_bits : c.syncMax < c.bitMin ∨ c.bitMax < c.syncMin
  eof_misses_bits : c.eofMax < c.bitMin ∨ c.bitMax < c.eofMin
  saturated_not_frame : c.frameBits < 2 ^ c.lenBits - 1
  frame_fits : c.frameBits ≤ c.payloadCap
  counter_fits : c.counterBits ≤ c.durBits
  counter_wide : 13 ≤ c.counterBits

end Sys2Proof
end

