-- ==== Sys2Proof/Machine/Classifier.lean ====
section
/-!
DEFINITION. The pulse classifier (41_pulse_classifier.md): six window comparators over one duration. Each takes the
parameter record, so that it can be stated for every parameter set; the machine runs with `params`.
-/

namespace Sys2Proof.Machine

/-- The parameters of the machine (00_scope.md R7, 30_encoding.md R37); `ZERO_MAX` = 1100 by decision D7, `CFG_CHANNEL` and
`COUNTER_BITS` open (log entries 3 and 7). -/
def params : Params where
  syncMin := 300
  syncMax := 600
  preMin := 2000
  preMax := 8000
  eofMin := 3000
  eofMax := 8000
  oneMin := 1650
  oneMax := 2150
  zeroMin := 800
  zeroMax := 1100
  frameBits := Config.frameBits
  durBits := Config.durBits
  tick := Config.tick
  payloadCap := Config.payloadCap
  lenBits := Config.lenBits
  cfgChannel := Config.cfgChannel
  counterBits := Config.counterBits

/-- The other observed variant of the logical-0 window (R62, 90_conflicts.md C2, U11). The machine does not run
with it. (Log entry 8.) -/
def paramsZero1000 : Params := { params with zeroMax := 1000 }

/-- `InW(d, lo, hi)`: a closed interval of unsigned values (00_scope.md R9). -/
def inW (d lo hi : Duration) : Bool := decide (lo ≤ d) && decide (d ≤ hi)

/-- `SyncHit(d)` (R58). -/
def syncHit (c : Params) (d : Duration) : Bool := inW d c.syncMin c.syncMax

/-- `PreHit(d)` (R59). -/
def preHit (c : Params) (d : Duration) : Bool := inW d c.preMin c.preMax

/-- `EofHit(d)` (R60). -/
def eofHit (c : Params) (d : Duration) : Bool := inW d c.eofMin c.eofMax

/-- `OneHit(d)` (R61). -/
def oneHit (c : Params) (d : Duration) : Bool := inW d c.oneMin c.oneMax

/-- `ZeroHit(d)` (R62). -/
def zeroHit (c : Params) (d : Duration) : Bool := inW d c.zeroMin c.zeroMax

/-- `BitHit(d)`: from `BIT_MIN = ZERO_MIN` to `BIT_MAX = ONE_MAX` (R63, R7). -/
def bitHit (c : Params) (d : Duration) : Bool := inW d c.bitMin c.bitMax

end Sys2Proof.Machine
end

