-- ==== Sys2Proof/Syntax.lean ====
section
/-!
DEFINITION. The instructions: one constructor per row of spec/opcode_table.json (four transactions, nine automaton
arms, DECODE), the frame states and arm names, and the words an instruction is written in.
-/

namespace Sys2Proof

/-- The four frame states (10_state.md R16). -/
inductive FrameState where
  /-- "waiting for a leading sync pulse" -/
  | pulseIdle
  /-- "waiting for the long inter-frame gap" -/
  | preamble
  /-- "waiting for a bit-start pulse" -/
  | pulse
  /-- "classifying the gap following a bit-start pulse ..." -/
  | data
  deriving DecidableEq, Repr

/-- The nine arms of the automaton, in priority order (30_encoding.md R47). -/
inductive Arm where
  | idleSync
  | idleStay
  | preOk
  | preAbandon
  | pulseOk
  | pulseFail
  | dataEof
  | dataBit
  | dataFail
  deriving DecidableEq, Repr

/-- The instructions. An arm carries the operands its rule names: the event's duration `d`, and for the two
`PulseIdle` arms also the previous level `p` (42_frame_synchronizer.md R66 to R75). -/
inductive Instr where
  /-- RESET (70_reset_and_hazards.md R113). -/
  | reset
  /-- POLL: the current pin level and the counter reading (40_sampler.md R53). -/
  | poll (l : Level) (n : Duration)
  /-- EVENT: the duration and the new level after the edge (42_frame_synchronizer.md R65). -/
  | event (d : Duration) (l : Level)
  /-- ACK (45_result_port.md R94). -/
  | ack
  /-- IDLE_SYNC (R66). -/
  | idleSync (d : Duration) (p : Level)
  /-- IDLE_STAY (R67). -/
  | idleStay (d : Duration) (p : Level)
  /-- PRE_OK (R68). -/
  | preOk (d : Duration)
  /-- PRE_ABANDON (R69). -/
  | preAbandon (d : Duration)
  /-- PULSE_OK (R70). -/
  | pulseOk (d : Duration)
  /-- PULSE_FAIL (R71). -/
  | pulseFail (d : Duration)
  /-- DATA_EOF (R73). -/
  | dataEof (d : Duration)
  /-- DATA_BIT (R74). -/
  | dataBit (d : Duration)
  /-- DATA_FAIL (R75). -/
  | dataFail (d : Duration)
  /-- DECODE, the internal operation (44_field_extractor.md R82). -/
  | decode
  deriving DecidableEq, Repr

/-- The words an instruction is written in. A transaction is one 35-bit word (R43). An arm is the 7-bit selector the
automaton forms (R47) followed by the duration operand that formed it. DECODE has "no transaction word" (R82). -/
inductive InstrWord where
  | txn (w : TxnWord)
  | sel (v : Selector) (d : Duration)
  | internal
  deriving DecidableEq, Repr

/-- Why the decoder rejects a word (60_exceptions.md R101). -/
inductive Reject where
  /-- `refuse(ReservedBits)`: a RESET or ACK word with a reserved bit set (R44, R101; 93 V1, V2). -/
  | reservedBits
  deriving DecidableEq, Repr

/-- The instruction an arm is, with the operands of the event that selected it (R65 "perform arm(d)"). -/
def Arm.toInstr (a : Arm) (d : Duration) (p : Level) : Instr :=
  match a with
  | .idleSync => .idleSync d p
  | .idleStay => .idleStay d p
  | .preOk => .preOk d
  | .preAbandon => .preAbandon d
  | .pulseOk => .pulseOk d
  | .pulseFail => .pulseFail d
  | .dataEof => .dataEof d
  | .dataBit => .dataBit d
  | .dataFail => .dataFail d

end Sys2Proof
end

