-- ==== Sys2Proof/WellFormed.lean ====
section
/-!
DEFINITION. Well-formed instructions: an arm's operands are ones its selector pattern and guard admit (the guards of
42_frame_synchronizer.md R66 to R75, less the test of `S.fsm`, which is state). Every transaction and DECODE is
well formed: every POLL and EVENT operand has a meaning (30_encoding.md R44).
-/

namespace Sys2Proof

open Sys2Proof.Machine in
/-- The operands of an arm are those of an event that selects it. -/
def Instr.wellFormed : Instr → Bool
  | .reset => true
  | .poll _ _ => true
  | .event _ _ => true
  | .ack => true
  | .idleSync d p => decide (p = .high) && syncHit params d
  | .idleStay d p => !(decide (p = .high) && syncHit params d)
  | .preOk d => preHit params d
  | .preAbandon d => !preHit params d
  | .pulseOk d => syncHit params d
  | .pulseFail d => !syncHit params d
  | .dataEof d => eofHit params d
  | .dataBit d => !eofHit params d && bitHit params d
  | .dataFail d => !eofHit params d && !bitHit params d
  | .decode => true

end Sys2Proof
end

