-- ==== Sys2Proof/Decode.lean ====
section
/-!
DEFINITION. The decoder of transaction words (30_encoding.md R43, R44), the automaton's decode table (R46, R47), the
encoder written from the same tables, and the reading of one row of spec/opcode_table.json.
-/

namespace Sys2Proof

open Sys2Proof.Machine

/-! ## Fields -/

/-- `High = 1`, `Low = 0` (00_scope.md R10, decision D2). -/
def levelBit : Level → BitVec 1
  | .high => 1#1
  | .low => 0#1

/-- The level a bit stands for (R10). -/
def levelOfBit (b : BitVec 1) : Level := if b = 1#1 then .high else .low

/-- The 2-bit code of a frame state (30_encoding.md R46). -/
def stateCode : FrameState → BitVec 2
  | .pulseIdle => 0b00#2
  | .preamble => 0b01#2
  | .pulse => 0b10#2
  | .data => 0b11#2

/-- The frame state of a 2-bit code; "all four codes are used" (R46). -/
def stateOfCode (k : BitVec 2) : FrameState :=
  if k = 0b00#2 then .pulseIdle
  else if k = 0b01#2 then .preamble
  else if k = 0b10#2 then .pulse
  else .data

/-! ## Transaction words -/

/-- The field `K` of a transaction word (R43). -/
def txnKind (w : TxnWord) : BitVec 2 := w.extractLsb' 33 2

/-- The field `L` of a transaction word (R43). -/
def txnLevel (w : TxnWord) : BitVec 1 := w.extractLsb' 32 1

/-- The field `V` of a transaction word (R43). -/
def txnValue (w : TxnWord) : Duration := w.extractLsb' 0 32

/-- The transaction word with these fields (R43). -/
def txnWord (k : BitVec 2) (l : BitVec 1) (v : Duration) : TxnWord := k ++ l ++ v

/-- Decode one transaction word: total on all `2^35` words; a RESET or ACK word with a reserved bit set is rejected
by name (R43, R44). -/
def decodeTxn (w : TxnWord) : Except Reject Instr :=
  if txnKind w = 0b00#2 then
    if txnLevel w = 0 ∧ txnValue w = 0 then .ok .reset else .error .reservedBits
  else if txnKind w = 0b01#2 then .ok (.poll (levelOfBit (txnLevel w)) (txnValue w))
  else if txnKind w = 0b10#2 then .ok (.event (txnValue w) (levelOfBit (txnLevel w)))
  else if txnLevel w = 0 ∧ txnValue w = 0 then .ok .ack else .error .reservedBits

/-! ## The automaton selector -/

/-- The selector of an event: `{code(fsm), p, SyncHit(d), PreHit(d), EofHit(d), BitHit(d)}` (42 R65, 30 R47). -/
def selector (c : Params) (fsm : FrameState) (p : Level) (d : Duration) : Selector :=
  stateCode fsm ++ levelBit p ++ BitVec.ofBool (syncHit c d) ++ BitVec.ofBool (preHit c d)
    ++ BitVec.ofBool (eofHit c d) ++ BitVec.ofBool (bitHit c d)

/-- The field `s` of a selector (R47). -/
def selectorState (v : Selector) : FrameState := stateOfCode (v.extractLsb' 5 2)

/-- The field `p` of a selector (R47). -/
def selectorPrev (v : Selector) : Level := levelOfBit (v.extractLsb' 4 1)

/-- One row of the automaton's decode table. -/
structure ArmRow where
  arm : Arm
  pattern : Selector
  mask : Selector
  deriving DecidableEq, Repr

/-- The priority table of R47, first row first. -/
def armTable : List ArmRow :=
  [ ⟨.idleSync, 0x18, 0x78⟩,
    ⟨.idleStay, 0x00, 0x60⟩,
    ⟨.preOk, 0x24, 0x64⟩,
    ⟨.preAbandon, 0x20, 0x60⟩,
    ⟨.pulseOk, 0x48, 0x68⟩,
    ⟨.pulseFail, 0x40, 0x60⟩,
    ⟨.dataEof, 0x62, 0x62⟩,
    ⟨.dataBit, 0x61, 0x61⟩,
    ⟨.dataFail, 0x60, 0x60⟩ ]

/-- `(sel & mask) = match` (42 R65). -/
def rowHits (v : Selector) (r : ArmRow) : Bool := v &&& r.mask == r.pattern

/-- The first row whose pattern matches (R47). "The table is total": the default is never reached
(`armTable_total`). -/
def selectArm (v : Selector) : Arm := ((armTable.find? (rowHits v)).map (·.arm)).getD .dataFail

/-! ## Decoder and encoder -/

/-- Decode the words of one instruction. Every selector has an arm (R47). -/
def decodeWord : InstrWord → Except Reject Instr
  | .txn w => decodeTxn w
  | .sel v d => .ok ((selectArm v).toInstr d (selectorPrev v))
  | .internal => .ok .decode

/-- The words of an instruction (R43, R47, R51). An arm that does not read `p` is written with `p` = 0. -/
def encode : Instr → InstrWord
  | .reset => .txn (txnWord 0b00#2 0 0)
  | .poll l n => .txn (txnWord 0b01#2 (levelBit l) n)
  | .event d l => .txn (txnWord 0b10#2 (levelBit l) d)
  | .ack => .txn (txnWord 0b11#2 0 0)
  | .idleSync d p => .sel (selector params .pulseIdle p d) d
  | .idleStay d p => .sel (selector params .pulseIdle p d) d
  | .preOk d => .sel (selector params .preamble .low d) d
  | .preAbandon d => .sel (selector params .preamble .low d) d
  | .pulseOk d => .sel (selector params .pulse .low d) d
  | .pulseFail d => .sel (selector params .pulse .low d) d
  | .dataEof d => .sel (selector params .data .low d) d
  | .dataBit d => .sel (selector params .data .low d) d
  | .dataFail d => .sel (selector params .data .low d) d
  | .decode => .internal

/-! ## One row of the opcode table -/

/-- One duration of each combination of hits that a duration can have (R64). -/
def sampleDurations : List Duration := [0, 500, 1000, 2100, 2500, 4000]

/-- A duration that forms this selector; where none does (`hE` without `hP`, for one), one whose own hits select the
same arm. (Log entry 9.) -/
def selectorDuration (v : Selector) : Duration :=
  let own (d : Duration) : Selector := selector params (selectorState v) (selectorPrev v) d
  match sampleDurations.find? (fun d => own d == v) with
  | some d => d
  | none => (sampleDurations.find? (fun d => selectArm (own d) == selectArm v)).getD 0

/-- The words the table's row bits stand for: none for DECODE, whose row has no bits; at most 8 bits are a selector;
more are a transaction word. A number too wide for its word spells nothing (R44 "A word wider than 35 bits cannot be
formed"). -/
def tableWord (nbits w : Nat) : Option InstrWord :=
  if nbits = 0 then if w = 0 then some .internal else none
  else if nbits ≤ 8 then
    if w < 2 ^ 7 then some (.sel (BitVec.ofNat 7 w) (selectorDuration (BitVec.ofNat 7 w))) else none
  else if w < 2 ^ 35 then some (.txn (BitVec.ofNat 35 w)) else none

/-- The instruction the decoder reads from an instruction of the opcode table whose bits are `w`. -/
def decodeTableWord (nbits w : Nat) : Option Instr :=
  match tableWord nbits w with
  | some x => (decodeWord x).toOption
  | none => none

end Sys2Proof
end

