-- ==== Sys2Proof/Machine/State.lean ====
section
/-!
DEFINITION. The state of the block (10_state.md R12), the result record (30_encoding.md R48, R49), the reset state
(70_reset_and_hazards.md R114), and the reasons a step can stop.
-/

namespace Sys2Proof.Machine

/-- The result kinds 0 to 4 (30_encoding.md R48). The reserved codes 5 to 7 are "never produced" and are not in the
type (93_implementation_defined.md V3). -/
inductive ResultKind where
  | none
  | reading
  | errLength
  | errRange
  | errChannel
  deriving DecidableEq, Repr

/-- The result record `S.res`, unpacked (30_encoding.md R49). `tempTenths` and `tempInt` are two's complement. -/
structure ResultRecord where
  kind : ResultKind
  id : BitVec 8
  batteryOk : BitVec 1
  channel : BitVec 3
  tempTenths : BitVec 13
  tempInt : BitVec 9
  tempFrac : BitVec 4
  humidity : BitVec 7
  dumpLen : BitVec 6
  errValue : BitVec 32
  dump : Vector Duration Config.payloadCap
  deriving DecidableEq, Repr

/-- The all-zero record, whose kind is `NONE` (10_state.md R20). -/
def ResultRecord.zero : ResultRecord where
  kind := .none
  id := 0
  batteryOk := 0
  channel := 0
  tempTenths := 0
  tempInt := 0
  tempFrac := 0
  humidity := 0
  dumpLen := 0
  errValue := 0
  dump := Vector.replicate Config.payloadCap 0

/-- The state. The first nine fields are R12's, in its order; the last four are the model's own. -/
structure State where
  /-- `S.prev_valid`: a level has been observed since reset (R15). -/
  prevValid : Bool
  /-- `S.prev_level`: the last pin level the sampler observed (R15). -/
  prevLevel : Level
  /-- `S.fsm`: the current frame state (R16). -/
  fsm : FrameState
  /-- `S.plen`: the length of the candidate payload, saturating (R17). -/
  plen : BitVec Config.lenBits
  /-- `PBUF[0..35]` (R17). -/
  pbuf : Vector Duration Config.payloadCap
  /-- `S.res_valid`: an unconsumed result is present (R20). -/
  resValid : Bool
  /-- `S.res_overrun`: a result replaced an unconsumed one (R20). -/
  resOverrun : Bool
  /-- `S.res`: the last decode result (R20). -/
  res : ResultRecord
  /-- `S.refused`: the spec's bookkeeping mark (R22). -/
  refused : Bool
  /-- MODEL: the launch parameter `CFG_CHANNEL` (R21), carried here so that a run can be evaluated for any value of it;
  no transaction writes it. (Log entry 3.) -/
  cfgChannel : BitVec 8
  /-- MODEL: the transaction words the host has still to issue, the next one first (30_encoding.md R43; log entry 4). -/
  pending : List TxnWord
  /-- MODEL: how many `CounterReset()` strobes the block has driven since launch (40_sampler.md R55; log entry 5). -/
  counterResets : Nat
  /-- MODEL: numbers the free values that a RESET leaves (log entry 2). -/
  freeCount : Nat
  deriving DecidableEq, Repr

/-- Faults. There is none: "No input makes the block trap, halt or abort" (60_exceptions.md R98), and no `PBUF` access
can be out of range (20_memory.md R28). So nobody raises one; having none is the spec's own statement, and it is
unsafe only if that statement is wrong. -/
inductive Fault where
  deriving DecidableEq, Repr

/-- Refusals of a step. A transaction word the spec refuses is no such outcome: the spec gives it an effect
(`S.refused <- 1`, 60_exceptions.md R101). -/
inductive Refusal where
  /-- Raised by an arm of `exec` for an instruction the model gives no meaning yet; safe: the machine stops where the
  hardware goes on. No arm raises it. -/
  | notModelled (mnemonic : String)
  deriving DecidableEq, Repr

/-- The state at launch (70_reset_and_hazards.md R114). `prevLevel` and `pbuf` are unspecified there; the values named
here are DESIGN CHOICES (log entry 1), and no rule reads them. `cfgChannel` is the open launch parameter (log entry 3);
no word is pending (log entry 4). -/
def State.reset : State where
  prevValid := false
  prevLevel := .low
  fsm := .pulseIdle
  plen := 0
  pbuf := Vector.replicate Config.payloadCap 0
  resValid := false
  resOverrun := false
  res := ResultRecord.zero
  refused := false
  cfgChannel := params.cfgChannel
  pending := []
  counterResets := 0
  freeCount := 0

end Sys2Proof.Machine
end

