-- ==== Sys2Proof/Machine/Flags.lean ====
section
/-!
DEFINITION. The status bits. "The block has no condition codes or arithmetic flags. Its only status bits are
`S.res_valid` and `S.res_overrun`" (10_state.md R23); each rule of how they change stands here.
-/

namespace Sys2Proof.Machine

/-- How writing a result changes the status bits: overrun if a result was unconsumed, and valid (45_result_port.md
R92). -/
def State.flagResult (s : State) : State :=
  { s with resValid := true, resOverrun := s.resValid || s.resOverrun }

/-- How ACK changes the status bits: both are cleared (45_result_port.md R94). -/
def State.clearFlags (s : State) : State :=
  { s with resValid := false, resOverrun := false }

end Sys2Proof.Machine
end

