-- ==== Sys2Proof/Machine/Operands.lean ====
section
/-!
DEFINITION. The operand reads of the block: the candidate payload (10_state.md R17, R18), the bit slicer
(43_bit_slicer.md R80), field assembly (R81) and the frame field table (30_encoding.md R39). Also the result type of
the field extractor (44_field_extractor.md R82).
-/

namespace Sys2Proof.Machine

/-- `min(S.plen, PAYLOAD_CAP)`: the number of stored cells (R17). -/
def State.storedLen (s : State) : Nat := min s.plen.toNat Config.payloadCap

/-- `Payload(S) = [PBUF[0], ..., PBUF[min(S.plen, PAYLOAD_CAP) - 1]]` (R17). Every read of `PBUF` goes through it, so an
unspecified or stale cell is never read (R18). -/
def State.payload (s : State) : List Duration := s.pbuf.toList.take s.storedLen

/-- The bit slicer's verdict (R80). -/
inductive SliceResult where
  | bit0
  | bit1
  | outOfRange (d : Duration)
  deriving DecidableEq, Repr

/-- `Slice(d)` (R80): the two bit windows only (90_conflicts.md C5). -/
def slice (c : Params) (d : Duration) : SliceResult :=
  if oneHit c d then .bit1
  else if zeroHit c d then .bit0
  else .outOfRange d

/-- Shift the bits of consecutive durations into `acc`, first received first, stopping at the first duration that is
out of range (R81, 20_memory.md R26). -/
def extractBits (c : Params) : List Duration → Nat → Except Duration Nat
  | [], acc => .ok acc
  | d :: ds, acc =>
    match slice c d with
    | .bit1 => extractBits c ds (acc * 2 + 1)
    | .bit0 => extractBits c ds (acc * 2)
    | .outOfRange e => .error e

/-- A field's place in the frame (30_encoding.md R39). -/
structure Field where
  offset : Nat
  width : Nat
  deriving DecidableEq, Repr

/-- Device id (R39). -/
def idField : Field := ⟨0, 8⟩
/-- Battery-ok (R39). -/
def batteryField : Field := ⟨8, 1⟩
/-- Channel, raw (R39). -/
def channelField : Field := ⟨10, 2⟩
/-- Temperature, raw (R39). -/
def tempField : Field := ⟨12, 12⟩
/-- Humidity, raw (R39). -/
def humidityField : Field := ⟨28, 8⟩

/-- The five fields in table order, which is the scan order (R39, R84, decision D16). -/
def fieldTable : List Field := [idField, batteryField, channelField, tempField, humidityField]

/-- The cells of a field, in ascending positions (R81). The default is for a list shorter than a frame, which the
length check keeps out (20_memory.md R28). -/
def fieldCells (cells : List Duration) (f : Field) : List Duration :=
  (List.range f.width).map (fun k => cells.getD (f.offset + k) 0)

/-- `ExtractField(o, w)` (R81). -/
def extractField (c : Params) (cells : List Duration) (f : Field) : Except Duration Nat :=
  extractBits c (fieldCells cells f) 0

/-- The payload positions the fields cover, in scan order (R84): 0..8, 10..23, 28..35. -/
def scannedPositions : List Nat :=
  fieldTable.flatMap (fun f => (List.range f.width).map (fun k => f.offset + k))

/-- The raw field values of one frame (30_encoding.md R42). -/
structure RawFields where
  id : BitVec 8
  battery : BitVec 1
  channel : BitVec 2
  temp : BitVec 12
  humidity : BitVec 8
  deriving DecidableEq, Repr

/-- A decoded reading (44_field_extractor.md R90, types of 30_encoding.md R49). -/
structure Reading where
  id : BitVec 8
  batteryOk : BitVec 1
  channel : BitVec 3
  tempTenths : BitVec 13
  tempInt : BitVec 9
  tempFrac : BitVec 4
  humidity : BitVec 7
  deriving DecidableEq, Repr

/-- What `DecodeFn` returns: a reading or one of the three errors, with the value each carries (R82, 30_encoding.md
R48). -/
inductive DecodeResult where
  | reading (r : Reading)
  | errLength (len : Nat)
  | errRange (d : Duration)
  | errChannel (ch : BitVec 3)
  deriving DecidableEq, Repr

end Sys2Proof.Machine
end

