-- ==== Sys2Proof/Machine/Ops.lean ====
section
/-!
DEFINITION. The named operations over the state. The block takes no exception (60_exceptions.md R98); what a decode
failure does instead (R103) is one shared operation, `State.writeResult`, and there is no return from it (R104).
-/

namespace Sys2Proof.Machine

/-- `S.fsm <- f` (10_state.md R16). -/
def State.setFsm (s : State) (f : FrameState) : State := { s with fsm := f }

/-- `S.prev_level <- l` (40_sampler.md R53). -/
def State.setPrevLevel (s : State) (l : Level) : State := { s with prevLevel := l }

/-- `S.prev_level <- l; S.prev_valid <- 1`: the latching first POLL (40_sampler.md R53). -/
def State.latchLevel (s : State) (l : Level) : State := { s with prevLevel := l, prevValid := true }

/-- `CounterReset()`: one strobe toward the external counter (40_sampler.md R55). -/
def State.strobeCounter (s : State) : State := { s with counterResets := s.counterResets + 1 }

/-- Clear the payload: `S.plen <- 0`, the cells as they are (10_state.md R17). -/
def State.clearPayload (s : State) : State := { s with plen := 0 }

/-- Append a duration: at `PAYLOAD_CAP` and above nothing is stored, and the length saturates (10_state.md R17,
42_frame_synchronizer.md R74). -/
def State.appendDuration (s : State) (d : Duration) : State :=
  { s with
    pbuf := if s.plen.toNat < Config.payloadCap then s.pbuf.setIfInBounds s.plen.toNat d else s.pbuf
    plen := BitVec.ofNat Config.lenBits (min (s.plen.toNat + 1) Config.lenMax) }

/-- The cells of `Dump()`: the stored payload, then zeros (45_result_port.md R93). -/
def State.dumpCells (s : State) : Vector Duration Config.payloadCap :=
  Vector.ofFn (fun k : Fin Config.payloadCap => s.payload.getD k.val 0)

/-- `rec.dump_len, rec.dump <- Dump()` (45_result_port.md R92, R93). -/
def ResultRecord.withDump (r : ResultRecord) (s : State) : ResultRecord :=
  { r with dumpLen := BitVec.ofNat 6 s.storedLen, dump := s.dumpCells }

/-- The record of a decode result before its dump; fields not named are 0 (45_result_port.md R92, 30_encoding.md R48,
R49). -/
def recordOf : DecodeResult → ResultRecord
  | .reading r =>
    { ResultRecord.zero with
      kind := .reading
      id := r.id
      batteryOk := r.batteryOk
      channel := r.channel
      tempTenths := r.tempTenths
      tempInt := r.tempInt
      tempFrac := r.tempFrac
      humidity := r.humidity }
  | .errLength len => { ResultRecord.zero with kind := .errLength, errValue := BitVec.ofNat 32 len }
  | .errRange d => { ResultRecord.zero with kind := .errRange, errValue := d }
  | .errChannel ch => { ResultRecord.zero with kind := .errChannel, errValue := ch.setWidth 32 }

/-- `S.res <- rec`. -/
def State.setRecord (s : State) (r : ResultRecord) : State := { s with res := r }

/-- `WriteResult(r)` (45_result_port.md R92): the record with its dump, and the status bits. It is also what a decode
failure does in place of taking an exception (60_exceptions.md R103). -/
def State.writeResult (s : State) (r : DecodeResult) : State :=
  s.flagResult.setRecord ((recordOf r).withDump s)

/-- A refused word changes no hardware state and sets the bookkeeping mark (60_exceptions.md R101, 10_state.md R22). -/
def State.markRefused (s : State) : State := { s with refused := true }

/-- The words still to issue become `ws` (30_encoding.md R43). -/
def State.setPending (s : State) (ws : List TxnWord) : State := { s with pending := ws }

/-- The reset values of RESET (70_reset_and_hazards.md R113). `S.prev_level` and the `PBUF` cells become unspecified: a
free value each, numbered by `freeCount` (log entry 2). `S.refused`, `CFG_CHANNEL`, the counter and the words still to
issue are not touched. -/
def State.applyReset (s : State) : State :=
  { s with
    prevValid := false
    prevLevel := Config.unspecifiedLevel s.freeCount
    fsm := .pulseIdle
    plen := 0
    pbuf := Vector.ofFn (fun k : Fin Config.payloadCap => Config.unspecifiedCell s.freeCount k.val)
    resValid := false
    resOverrun := false
    res := ResultRecord.zero
    freeCount := s.freeCount + 1 }

end Sys2Proof.Machine
end

