-- ==== Sys2Proof/Machine/Extractor.lean ====
section
/-!
DEFINITION. The field extractor (44_field_extractor.md): `DecodeFn` as a function over any sequence of durations, and
the meaning of DECODE.
-/

namespace Sys2Proof.Machine

/-- Step 2, extraction in table order; the first out-of-range duration is the error (R84, decision D16). -/
def extractFields (c : Params) (cells : List Duration) : Except Duration RawFields := do
  let id ← extractField c cells idField
  let battery ← extractField c cells batteryField
  let channel ← extractField c cells channelField
  let temp ← extractField c cells tempField
  let humidity ← extractField c cells humidityField
  return {
    id := BitVec.ofNat 8 id
    battery := BitVec.ofNat 1 battery
    channel := BitVec.ofNat 2 channel
    temp := BitVec.ofNat 12 temp
    humidity := BitVec.ofNat 8 humidity }

/-- Step 3, the channel: raw + 1, in three bits (R85). -/
def interpretChannel (raw : BitVec 2) : BitVec 3 := raw.setWidth 3 + 1

/-- Step 3, the temperature in tenths: `raw - 4096` if raw exceeds 2048, else raw (R86, 90_conflicts.md C4). -/
def interpretTemp (raw : BitVec 12) : Int := if raw.toNat > 2048 then (raw.toNat : Int) - 4096 else raw.toNat

/-- `temp_int`: division by 10 truncating toward zero (R86, R9). -/
def tempIntPart (t : Int) : Int := t.tdiv 10

/-- `temp_frac`: the absolute value modulo 10 (R86, 90_conflicts.md C3). -/
def tempFracDigit (t : Int) : Nat := t.natAbs % 10

/-- Step 3, the humidity: clamped to 100 (R87). -/
def interpretHumidity (raw : BitVec 8) : Nat := min raw.toNat 100

/-- Step 3 as a whole: the reading the raw fields stand for (R85 to R88). -/
def interpret (raw : RawFields) : Reading where
  id := raw.id
  batteryOk := raw.battery
  channel := interpretChannel raw.channel
  tempTenths := BitVec.ofInt 13 (interpretTemp raw.temp)
  tempInt := BitVec.ofInt 9 (tempIntPart (interpretTemp raw.temp))
  tempFrac := BitVec.ofNat 4 (tempFracDigit (interpretTemp raw.temp))
  humidity := BitVec.ofNat 7 (interpretHumidity raw.humidity)

/-- Steps 4 and 5: the channel filter, compared by integer value, then the reading (R89, R90). -/
def filterChannel (r : Reading) (cfg : BitVec 8) : DecodeResult :=
  if r.channel.toNat ≠ cfg.toNat then .errChannel r.channel else .reading r

/-- `DecodeFn(len, PBUF, cfg)` (R82): length, then extraction, then interpretation and filter. -/
def decodeFn (c : Params) (len : Nat) (cells : List Duration) (cfg : BitVec 8) : DecodeResult :=
  if len ≠ c.frameBits then .errLength len
  else
    match extractFields c cells with
    | .error d => .errRange d
    | .ok raw => filterChannel (interpret raw) cfg

/-- `Decode()` (R82). -/
def decodeOp (s : State) : State :=
  s.writeResult (decodeFn params s.plen.toNat s.payload s.cfgChannel)

/-- The meaning of DECODE (R82). -/
def execDecode (s : State) : Host.Outcome State Fault Refusal := .next (decodeOp s)

end Sys2Proof.Machine
end

