-- ==== Sys2Proof/Machine/Automaton.lean ====
section
/-!
DEFINITION. The frame synchronizer (42_frame_synchronizer.md): the nine arms, each with the guard its rule's
pseudocode carries, and EVENT, which forms the selector and performs the arm it selects. An arm whose guard does not
hold has no effect (log entry 10); EVENT never selects such an arm (`deliverEvent_cases`).
-/

namespace Sys2Proof.Machine

/-- IDLE_SYNC (R66). -/
def armIdleSync (d : Duration) (p : Level) (s : State) : State :=
  if s.fsm = .pulseIdle ∧ p = .high ∧ syncHit params d then s.setFsm .preamble else s

/-- IDLE_STAY (R67): "skip", whether or not its guard holds. -/
def armIdleStay (_d : Duration) (_p : Level) (s : State) : State := s

/-- PRE_OK (R68). -/
def armPreOk (d : Duration) (s : State) : State :=
  if s.fsm = .preamble ∧ preHit params d then s.setFsm .pulse else s

/-- PRE_ABANDON (R69). -/
def armPreAbandon (d : Duration) (s : State) : State :=
  if s.fsm = .preamble ∧ ¬ preHit params d then s.setFsm .pulseIdle else s

/-- PULSE_OK (R70). -/
def armPulseOk (d : Duration) (s : State) : State :=
  if s.fsm = .pulse ∧ syncHit params d then s.setFsm .data else s

/-- PULSE_FAIL (R71). -/
def armPulseFail (d : Duration) (s : State) : State :=
  if s.fsm = .pulse ∧ ¬ syncHit params d then s.clearPayload.setFsm .pulseIdle else s

/-- DATA_EOF (R73): decode a non-empty payload, then clear it whatever the outcome. -/
def armDataEof (d : Duration) (s : State) : State :=
  if s.fsm = .data ∧ eofHit params d then
    (if s.plen ≠ 0 then decodeOp s else s).clearPayload.setFsm .pulseIdle
  else s

/-- DATA_BIT (R74): the raw duration is stored. -/
def armDataBit (d : Duration) (s : State) : State :=
  if s.fsm = .data ∧ ¬ eofHit params d ∧ bitHit params d then (s.appendDuration d).setFsm .pulse else s

/-- DATA_FAIL (R75). -/
def armDataFail (d : Duration) (s : State) : State :=
  if s.fsm = .data ∧ ¬ eofHit params d ∧ ¬ bitHit params d then s.clearPayload.setFsm .pulseIdle else s

/-- `perform arm(d)` (R65). -/
def performArm (a : Arm) (d : Duration) (p : Level) (s : State) : State :=
  match a with
  | .idleSync => armIdleSync d p s
  | .idleStay => armIdleStay d p s
  | .preOk => armPreOk d s
  | .preAbandon => armPreAbandon d s
  | .pulseOk => armPulseOk d s
  | .pulseFail => armPulseFail d s
  | .dataEof => armDataEof d s
  | .dataBit => armDataBit d s
  | .dataFail => armDataFail d s

/-- `EVENT(d, L)`, which is also `Deliver` (R65, 00_scope.md R9). -/
def deliverEvent (d : Duration) (l : Level) (s : State) : State :=
  performArm (selectArm (selector params s.fsm l.flip d)) d l.flip s

/-- The meaning of EVENT (R65). -/
def execEvent (d : Duration) (l : Level) (s : State) : Host.Outcome State Fault Refusal := .next (deliverEvent d l s)

/-- The meaning of IDLE_SYNC (R66). -/
def execIdleSync (d : Duration) (p : Level) (s : State) : Host.Outcome State Fault Refusal := .next (armIdleSync d p s)

/-- The meaning of IDLE_STAY (R67). -/
def execIdleStay (d : Duration) (p : Level) (s : State) : Host.Outcome State Fault Refusal := .next (armIdleStay d p s)

/-- The meaning of PRE_OK (R68). -/
def execPreOk (d : Duration) (s : State) : Host.Outcome State Fault Refusal := .next (armPreOk d s)

/-- The meaning of PRE_ABANDON (R69). -/
def execPreAbandon (d : Duration) (s : State) : Host.Outcome State Fault Refusal := .next (armPreAbandon d s)

/-- The meaning of PULSE_OK (R70). -/
def execPulseOk (d : Duration) (s : State) : Host.Outcome State Fault Refusal := .next (armPulseOk d s)

/-- The meaning of PULSE_FAIL (R71). -/
def execPulseFail (d : Duration) (s : State) : Host.Outcome State Fault Refusal := .next (armPulseFail d s)

/-- The meaning of DATA_EOF (R73). -/
def execDataEof (d : Duration) (s : State) : Host.Outcome State Fault Refusal := .next (armDataEof d s)

/-- The meaning of DATA_BIT (R74). -/
def execDataBit (d : Duration) (s : State) : Host.Outcome State Fault Refusal := .next (armDataBit d s)

/-- The meaning of DATA_FAIL (R75). -/
def execDataFail (d : Duration) (s : State) : Host.Outcome State Fault Refusal := .next (armDataFail d s)

end Sys2Proof.Machine
end

