-- ==== Sys2Proof/Machine/Sampler.lean ====
section
/-!
DEFINITION. The edge-timed sampler (40_sampler.md): POLL.
-/

namespace Sys2Proof.Machine

/-- `POLL(L, N)` (R53): the first poll after reset latches the level and strobes the counter; an unchanged level does
nothing; a changed level strobes the counter, latches the level and delivers the event `(N, L)`. -/
def pollOp (l : Level) (n : Duration) (s : State) : State :=
  if s.prevValid = false then (s.latchLevel l).strobeCounter
  else if l = s.prevLevel then s
  else deliverEvent n l (s.strobeCounter.setPrevLevel l)

/-- The meaning of POLL (R53). -/
def execPoll (l : Level) (n : Duration) (s : State) : Host.Outcome State Fault Refusal := .next (pollOp l n s)

end Sys2Proof.Machine
end

