-- ==== Sys2Proof/Machine/System.lean ====
section
/-!
DEFINITION. The system transactions: RESET (70_reset_and_hazards.md R113) and ACK (45_result_port.md R94).
-/

namespace Sys2Proof.Machine

/-- The meaning of RESET (R113). -/
def execReset (s : State) : Host.Outcome State Fault Refusal := .next s.applyReset

/-- The meaning of ACK (R94): the record stays readable. -/
def execAck (s : State) : Host.Outcome State Fault Refusal := .next s.clearFlags

end Sys2Proof.Machine
end

