-- ==== Sys2Proof/Machine/Dispatch.lean ====
section
/-! DEFINITION. The dispatch: one arm per row of spec/opcode_table.json. -/

namespace Sys2Proof.Machine

def exec (i : Instr) (s : State) : Host.Outcome State Fault Refusal :=
  match i with
  | .reset => Sys2Proof.Machine.execReset s
  | .poll l n => Sys2Proof.Machine.execPoll l n s
  | .event d l => Sys2Proof.Machine.execEvent d l s
  | .ack => Sys2Proof.Machine.execAck s
  | .idleSync d p => Sys2Proof.Machine.execIdleSync d p s
  | .idleStay d p => Sys2Proof.Machine.execIdleStay d p s
  | .preOk d => Sys2Proof.Machine.execPreOk d s
  | .preAbandon d => Sys2Proof.Machine.execPreAbandon d s
  | .pulseOk d => Sys2Proof.Machine.execPulseOk d s
  | .pulseFail d => Sys2Proof.Machine.execPulseFail d s
  | .dataEof d => Sys2Proof.Machine.execDataEof d s
  | .dataBit d => Sys2Proof.Machine.execDataBit d s
  | .dataFail d => Sys2Proof.Machine.execDataFail d s
  | .decode => Sys2Proof.Machine.execDecode s

end Sys2Proof.Machine
end

