-- ==== Sys2Proof/Machine/Fetch.lean ====
section
/-!
DEFINITION. Taking the next transaction word from the host, and placing one instruction of the opcode table so that the
very next step runs it (log entry 9).
-/

namespace Sys2Proof.Machine

/-- What the next step finds. -/
inductive Fetched where
  /-- The host issues nothing: "a yield" (60_exceptions.md R112). -/
  | nothing
  /-- A word that spells no transaction; the state is the one after it is taken (60_exceptions.md R101). -/
  | rejected (r : Reject) (s : State)
  /-- A transaction; the state is the one after its word is taken. -/
  | run (i : Instr) (s : State)
  deriving DecidableEq, Repr

/-- Take the next word and decode it (30_encoding.md R43, R44). -/
def fetch (s : State) : Fetched :=
  match s.pending with
  | [] => .nothing
  | w :: ws =>
    match decodeTxn w with
    | .ok i => .run i (s.setPending ws)
    | .error r => .rejected r (s.setPending ws)

/-- The word is the next the host issues. -/
def issueNext (w : TxnWord) (s : State) : State := s.setPending (w :: s.pending)

/-- The EVENT word of a duration and the level it leaves (42_frame_synchronizer.md R65 "p = not L"). -/
def eventWord (d : Duration) (p : Level) : TxnWord := txnWord 0b10#2 (levelBit p.flip) d

/-- Place the words of one instruction so that the next step runs it. A transaction word is the next the host issues. An
arm runs inside an EVENT (R65): the automaton is put in the selector's state and the host issues an EVENT whose
selector takes that arm. DECODE runs inside DATA_EOF with a non-empty payload (44_field_extractor.md R82): `Data`, one
stored duration if there is none, and an EVENT of an end-of-frame gap. -/
def placeWord (x : InstrWord) (s : State) : State :=
  match x with
  | .txn w => issueNext w s
  | .sel v d => issueNext (eventWord d (selectorPrev v)) (s.setFsm (selectorState v))
  | .internal =>
    issueNext (eventWord 4000 .low) ((if s.plen = 0 then s.appendDuration 1000 else s).setFsm .data)

/-- Place the instruction of the opcode table whose bits are `w`; bits that spell no word place nothing. -/
def placeTableWord (s : State) (nbits w : Nat) : State :=
  match tableWord nbits w with
  | some x => placeWord x s
  | none => s

end Sys2Proof.Machine
end

