-- ==== Sys2Proof/Machine/Step.lean ====
section
/-!
DEFINITION. One step: one transaction of the host (00_scope.md R6, 20_memory.md R29).
-/

namespace Sys2Proof.Machine

/-- One step. A transaction runs whole. A refused word sets only the mark and the run goes on (60_exceptions.md R101;
log entry 6). With no word to issue the host yields, and no state changes (R112). -/
def step (s : State) : Host.Outcome State Fault Refusal :=
  match fetch s with
  | .nothing => .next s
  | .rejected _ t => .next t.markRefused
  | .run i t => exec i t

/-- `s` with one instruction of the opcode table placed where the next step takes it. -/
def State.withFetchWord (s : State) (nbits w : Nat) : State := placeTableWord s nbits w

end Sys2Proof.Machine
end

