-- ==== Sys2Proof/Machine/ResultPort.lean ====
section
/-!
DEFINITION. What the host reads (45_result_port.md R95): the record, the two status bits, and their packed form RES0,
RES1, DUMP and STATUS (30_encoding.md R49, 20_memory.md R27). Reading is a function of the state, so it has no side
effect (20_memory.md R29).
-/

namespace Sys2Proof.Machine

/-- The 3-bit code of a result kind (30_encoding.md R48). -/
def kindCode : ResultKind → BitVec 3
  | .none => 0
  | .reading => 1
  | .errLength => 2
  | .errRange => 3
  | .errChannel => 4

/-- The result kind of a 3-bit code; 5, 6 and 7 are reserved (R48). -/
def kindOfCode (k : BitVec 3) : Option ResultKind :=
  if k = 0 then some .none
  else if k = 1 then some .reading
  else if k = 2 then some .errLength
  else if k = 3 then some .errRange
  else if k = 4 then some .errChannel
  else none

/-- RES0, from bit 63 down: 5 reserved zeros, `dump_len`, `humidity`, `temp_frac`, `temp_int`, `temp_tenths`,
`channel`, `battery_ok`, `id`, 5 reserved zeros, `kind` (R49). -/
def ResultRecord.res0 (r : ResultRecord) : BitVec 64 :=
  0#5 ++ r.dumpLen ++ r.humidity ++ r.tempFrac ++ r.tempInt ++ r.tempTenths ++ r.channel ++ r.batteryOk ++ r.id
    ++ 0#5 ++ kindCode r.kind

/-- RES1 (R49). -/
def ResultRecord.res1 (r : ResultRecord) : BitVec 32 := r.errValue

/-- DUMP[k] (R49). -/
def ResultRecord.dumpWord (r : ResultRecord) (k : Fin Config.payloadCap) : Duration := r.dump[k]

/-- STATUS: bit 0 is `S.res_valid`, bit 1 is `S.res_overrun` (R49). -/
def State.status (s : State) : BitVec 2 := BitVec.ofBool s.resOverrun ++ BitVec.ofBool s.resValid

/-- The record that the packed words hold; none where a reserved kind or a set reserved bit shows that no record was
packed (R49, R50). -/
def unpackRecord (w0 : BitVec 64) (w1 : BitVec 32) (dump : Vector Duration Config.payloadCap) : Option ResultRecord :=
  if w0.extractLsb' 59 5 = 0 ∧ w0.extractLsb' 3 5 = 0 then
    match kindOfCode (w0.extractLsb' 0 3) with
    | some k => some {
        kind := k
        id := w0.extractLsb' 8 8
        batteryOk := w0.extractLsb' 16 1
        channel := w0.extractLsb' 17 3
        tempTenths := w0.extractLsb' 20 13
        tempInt := w0.extractLsb' 33 9
        tempFrac := w0.extractLsb' 42 4
        humidity := w0.extractLsb' 46 7
        dumpLen := w0.extractLsb' 53 6
        errValue := w1
        dump := dump }
    | none => none
  else none

/-- What the host can read between transactions, and nothing else (R95). -/
structure HostView where
  res : ResultRecord
  resValid : Bool
  resOverrun : Bool
  deriving DecidableEq, Repr

/-- The host's view of a state (R95). -/
def State.view (s : State) : HostView := ⟨s.res, s.resValid, s.resOverrun⟩

end Sys2Proof.Machine
end

