-- ==== Sys2Proof/Machine/HostSide.lean ====
section
/-!
DEFINITION. What stands on the host's side and the spec still states: the text record `Render` (45_result_port.md R96),
the external counter's reading (40_sampler.md R54, 70_reset_and_hazards.md R116), the program text and the
pseudo-operations (30_encoding.md R51, R52), and the over-the-air frame (R38). No step of the block calls any of it.
-/

namespace Sys2Proof.Machine

/-! ## Render -/

/-- Decimal digits of `n`, most significant first, before `acc`; `fuel` bounds their number. -/
def digitsOf : Nat → Nat → List Char → List Char
  | 0, _, acc => acc
  | fuel + 1, n, acc =>
    let acc' := Char.ofNat (48 + n % 10) :: acc
    if n / 10 = 0 then acc' else digitsOf fuel (n / 10) acc'

/-- `dec(n)`: a leading `-` if n < 0, no leading zeros, and `0` for zero (R96, decision D19). -/
def dec (n : Int) : String :=
  let digits := String.ofList (digitsOf (n.natAbs + 1) n.natAbs [])
  if n < 0 then "-" ++ digits else digits

/-- The brace that opens the text record. -/
def openBrace : String := String.singleton (Char.ofNat 123)

/-- The brace that closes the text record. -/
def closeBrace : String := String.singleton (Char.ofNat 125)

/-- `Render(rec, time)` (R96). "`Render` is defined only for `kind = READING`": none for every other record. -/
def render (r : ResultRecord) (time : String) : Option String :=
  if r.kind = .reading then
    some (openBrace ++ "\"time\" : \"" ++ time ++ "\", \"model\" : \"Nexus-TH\", \"id\" : " ++ dec r.id.toNat
      ++ ", \"channel\" : " ++ dec r.channel.toNat ++ ", \"battery_ok\" : " ++ dec r.batteryOk.toNat
      ++ ", \"temperature_C\" : " ++ dec r.tempInt.toInt ++ "." ++ dec r.tempFrac.toNat
      ++ ", \"humidity\" : " ++ dec r.humidity.toNat ++ closeBrace)
  else none

/-! ## The external counter -/

/-- What a counter that wraps reads `elapsed` microseconds after its last strobe: its counts of `TICK` microseconds,
modulo `2^COUNTER_BITS`, as a duration (40 R54, 00 R7). Whether a counter wraps or saturates past its width "belongs to
the platform"; wrapping is the model's choice (log entry 7). -/
def counterReading (c : Params) (elapsed : Nat) : Duration :=
  BitVec.ofNat Config.durBits (elapsed / c.tick % 2 ^ c.counterBits)

/-! ## Program text and pseudo-operations -/

/-- A level as program text writes it (30 R51). -/
def levelText : Level → String
  | .high => "H"
  | .low => "L"

/-- One line of program text; none for an instruction that is no transaction (30 R51). -/
def asmLine : Instr → Option String
  | .reset => some "RESET"
  | .poll l n => some ("POLL " ++ levelText l ++ ", " ++ dec n.toNat)
  | .event d l => some ("EVENT " ++ dec d.toNat ++ ", " ++ levelText l)
  | .ack => some "ACK"
  | .idleSync _ _ => none
  | .idleStay _ _ => none
  | .preOk _ => none
  | .preAbandon _ => none
  | .pulseOk _ => none
  | .pulseFail _ => none
  | .dataEof _ => none
  | .dataBit _ => none
  | .dataFail _ => none
  | .decode => none

/-- `HI d`: the pin was high for `d`, then fell (30 R52). -/
def hi (d : Duration) : Instr := .event d .low

/-- `LO d`: the pin was low for `d`, then rose (30 R52). -/
def lo (d : Duration) : Instr := .event d .high

/-- The events of one frame: sync pulse and preamble gap, then a bit pulse and a bit gap for each bit, then the
trailing pulse and the end-of-frame gap (30 R38). -/
def frameEvents (sync pregap : Duration) (bits : List (Duration × Duration)) (trail eofgap : Duration) : List Instr :=
  [hi sync, lo pregap] ++ bits.flatMap (fun b => [hi b.1, lo b.2]) ++ [hi trail, lo eofgap]

/-- `BIT0` and `BIT1` as a bit pulse and a bit gap, with the nominal durations (30 R52, decision D20). -/
def bitPair (b : Bool) : Duration × Duration := (500, if b then 1900 else 1000)

/-- `FRAME b0 ... b(n-1)` = `SYNC ; BITb0 ; ... ; TAIL` (30 R52). -/
def frame (bits : List Bool) : List Instr := frameEvents 500 4000 (bits.map bitPair) 500 4000

end Sys2Proof.Machine
end

