-- ==== Sys2Proof/Safety.lean ====
section
/-!
DEFINITION. The terms the claims use: the invariants of the spec (10_state.md R19, 42_frame_synchronizer.md R77), what
the result record may hold (30_encoding.md R48, R49; 60_exceptions.md R99), agreement of two states on everything the
spec specifies (93_implementation_defined.md U1, U2), and running a sequence of instructions.
-/

namespace Sys2Proof.Machine

/-- A step that goes on: it answers a next state. -/
def Continues (o : Host.Outcome State Fault Refusal) : Prop := ∃ t, o = .next t

/-- I1, I2 and I3 of R19. -/
structure State.Inv (s : State) : Prop where
  /-- I1: the payload is empty in `PulseIdle` and `Preamble`. -/
  idle_empty : s.fsm = .pulseIdle ∨ s.fsm = .preamble → s.plen = 0
  /-- I2: every stored cell lies in [800, 2150]. -/
  cells_in_range : ∀ d ∈ s.payload, 800 ≤ d.toNat ∧ d.toNat ≤ 2150
  /-- I3: overrun only while a result is valid. -/
  overrun_valid : s.resOverrun = true → s.resValid = true

/-- The fields that are 0 when the kind is not `READING`: "no partial results are ever returned" (30 R49). -/
def ResultRecord.NoReading (r : ResultRecord) : Prop :=
  r.id = 0 ∧ r.batteryOk = 0 ∧ r.channel = 0 ∧ r.tempTenths = 0 ∧ r.tempInt = 0 ∧ r.tempFrac = 0 ∧ r.humidity = 0

/-- What the record's fields hold, kind by kind (30 R48, R49; 44 R85 to R90; 60 R99). -/
def ResultRecord.FieldsOk (r : ResultRecord) (cfg : BitVec 8) : Prop :=
  match r.kind with
  | .none => r = ResultRecord.zero
  | .reading =>
    r.errValue = 0 ∧ r.dumpLen = 36 ∧ r.channel.toNat = cfg.toNat ∧ 1 ≤ r.channel.toNat ∧ r.channel.toNat ≤ 4 ∧
      -2047 ≤ r.tempTenths.toInt ∧ r.tempTenths.toInt ≤ 2048 ∧ r.tempInt.toInt = r.tempTenths.toInt.tdiv 10 ∧
      r.tempFrac.toNat = r.tempTenths.toInt.natAbs % 10 ∧ r.humidity.toNat ≤ 100
  | .errLength =>
    r.NoReading ∧ r.errValue.toNat ≠ 36 ∧ 1 ≤ r.errValue.toNat ∧ r.errValue.toNat ≤ 65535 ∧
      r.dumpLen.toNat = min r.errValue.toNat 36
  | .errRange => r.NoReading ∧ 1101 ≤ r.errValue.toNat ∧ r.errValue.toNat ≤ 1649 ∧ r.dumpLen = 36
  | .errChannel =>
    r.NoReading ∧ 1 ≤ r.errValue.toNat ∧ r.errValue.toNat ≤ 4 ∧ r.errValue.toNat ≠ cfg.toNat ∧ r.dumpLen = 36

/-- What the dump holds: stored durations below `dump_len`, zeros from there on (30 R49, 45 R93). -/
def ResultRecord.DumpOk (r : ResultRecord) : Prop :=
  ∀ k : Fin Config.payloadCap,
    (k.val < r.dumpLen.toNat → 800 ≤ (r.dumpWord k).toNat ∧ (r.dumpWord k).toNat ≤ 2150) ∧
      (r.dumpLen.toNat ≤ k.val → r.dumpWord k = 0)

/-- The result port holds a record the rules admit, and a valid one is a result (30 R48, R49). -/
structure State.PortOk (s : State) : Prop where
  fields : s.res.FieldsOk s.cfgChannel
  dump : s.res.DumpOk
  valid_result : s.resValid = true → s.res.kind ≠ .none

/-- Under the sampler, the level last observed tells pulses from gaps: in `Preamble` and `Data` the pin is low, so the
next edge is a rising one, and in `Pulse` it is high (42 R77). -/
structure State.SamplerInv (s : State) : Prop where
  gap_low : s.fsm = .preamble ∨ s.fsm = .data → s.prevValid = true ∧ s.prevLevel = .low
  pulse_high : s.fsm = .pulse → s.prevValid = true ∧ s.prevLevel = .high

/-- Two states agree on everything the spec specifies: they may differ in `prev_level` before the first poll (U1), in
`PBUF` cells at and above the stored length (U2), and in the numbering of free values. -/
structure Agree (s t : State) : Prop where
  prevValid : s.prevValid = t.prevValid
  prevLevel : s.prevValid = true → s.prevLevel = t.prevLevel
  fsm : s.fsm = t.fsm
  plen : s.plen = t.plen
  payload : s.payload = t.payload
  resValid : s.resValid = t.resValid
  resOverrun : s.resOverrun = t.resOverrun
  res : s.res = t.res
  refused : s.refused = t.refused
  cfgChannel : s.cfgChannel = t.cfgChannel
  pending : s.pending = t.pending
  counterResets : s.counterResets = t.counterResets

/-- A payload position that some field covers (30 R39, R40; 44 R84): 0..8, 10..23 and 28..35. -/
def Scanned (p : Nat) : Prop := p < 9 ∨ (10 ≤ p ∧ p < 24) ∨ (28 ≤ p ∧ p < 36)

/-- The duration is a logical-0 gap, in [800, 1100], or a logical-1 gap, in [1650, 2150] (43 R80). -/
def InBitWindow (d : Duration) : Prop :=
  (800 ≤ d.toNat ∧ d.toNat ≤ 1100) ∨ (1650 ≤ d.toNat ∧ d.toNat ≤ 2150)

/-- `Field(o, w)` = the sum of `bit(o + k) * 2^(w-1-k)` over `k < w`, where a logical-1 gap is a 1 (30 R42). -/
def fieldSum (cells : List Duration) (o w : Nat) : Nat :=
  ∑ k ∈ Finset.range w,
    (if 1650 ≤ (cells.getD (o + k) 0).toNat ∧ (cells.getD (o + k) 0).toNat ≤ 2150 then 1 else 0) * 2 ^ (w - 1 - k)

/-- Run a sequence of instructions, stopping at the first that does not answer a next state. -/
def runInstrs : List Instr → State → Host.Outcome State Fault Refusal
  | [], s => .next s
  | i :: is, s =>
    match exec i s with
    | .next t => runInstrs is t
    | .fault r => .fault r
    | .refused r => .refused r

end Sys2Proof.Machine
end

