-- ==== Sys2Proof/Certificates/Slice0/Obligations.lean ====
section
/-!
DEFINITION. The statements for the provers. Each docstring names the rules of spec/ the statement formalises.
-/

open Sys2Proof Sys2Proof.Machine

/-! ## Encoding and decoding -/

/-- 95_test_vectors.md 2.7 and 30_encoding.md R51: sample transaction words and what they decode to. -/
def Obligations.SampleTransactionWordsDecode : Prop :=
  decodeTxn 0x000000000 = .ok .reset ∧ decodeTxn 0x600000000 = .ok .ack ∧
    decodeTxn 0x4000001F4 = .ok (.event 500 .low) ∧ decodeTxn 0x500000FA0 = .ok (.event 4000 .high) ∧
    decodeTxn 0x200000000 = .ok (.poll .low 0) ∧ decodeTxn 0x3FFFFFFFF = .ok (.poll .high 4294967295) ∧
    decodeTxn 0x000000001 = .error .reservedBits ∧ decodeTxn 0x100000000 = .error .reservedBits ∧
    decodeTxn 0x700000000 = .error .reservedBits ∧ decodeTxn 0x600000005 = .error .reservedBits

/-- R43, R51: the word of each transaction as the number the program syntax gives it. -/
def Obligations.TransactionWordFormulas : Prop :=
  encode .reset = .txn 0x000000000 ∧ encode .ack = .txn 0x600000000 ∧
    (∀ n : Duration, encode (.poll .low n) = .txn (BitVec.ofNat 35 (0x200000000 + n.toNat)) ∧
      encode (.poll .high n) = .txn (BitVec.ofNat 35 (0x200000000 + 0x100000000 + n.toNat))) ∧
    ∀ d : Duration, encode (.event d .low) = .txn (BitVec.ofNat 35 (0x400000000 + d.toNat)) ∧
      encode (.event d .high) = .txn (BitVec.ofNat 35 (0x400000000 + 0x100000000 + d.toNat))

/-- R44: each word is one of the four transactions or refused, and the refused words are exactly the RESET and ACK
words with a reserved bit set. Every POLL and EVENT word is legal. -/
def Obligations.RefusedWordsAreReservedBits : Prop :=
  ∀ w : TxnWord,
    (decodeTxn w = .error .reservedBits ↔ (0 < w.toNat ∧ w.toNat < 2 ^ 33) ∨ 3 * 2 ^ 33 < w.toNat) ∧
      (decodeTxn w = .ok .reset ↔ w.toNat = 0) ∧ (decodeTxn w = .ok .ack ↔ w.toNat = 3 * 2 ^ 33) ∧
      ((∃ l n, decodeTxn w = .ok (.poll l n)) ↔ 2 ^ 33 ≤ w.toNat ∧ w.toNat < 2 * 2 ^ 33) ∧
      ((∃ d l, decodeTxn w = .ok (.event d l)) ↔ 2 * 2 ^ 33 ≤ w.toNat ∧ w.toNat < 3 * 2 ^ 33)

/-- Decoding the words of every well-formed instruction gives the instruction back. R43 gives the four transactions their
words. The words of the other ten are the model's encoding (log entry 9): R47 gives an arm a selector only, and the model
writes it with the duration that formed it and with `p` = 0 where the arm does not read `p`; DECODE has no word (R82), and
the model gives it one of no bits. -/
def Obligations.EncodedInstructionDecodesBack : Prop :=
  ∀ i : Instr, i.wellFormed = true → decodeWord (encode i) = .ok i

/-- R43, R45: a transaction word that decodes is the word of what it decodes to, so each transaction has one word. -/
def Obligations.DecodedWordEncodesBack : Prop :=
  ∀ (w : TxnWord) (i : Instr), decodeTxn w = .ok i → encode i = .txn w

/-- R47: each of the 128 selectors takes the first row of the priority table that it matches. -/
def Obligations.SelectorTakesFirstMatchingRow : Prop :=
  ∀ v : Selector, ∃ k : Fin 9, ∃ r : ArmRow, armTable[k.val]? = some r ∧ v &&& r.mask = r.pattern ∧
    selectArm v = r.arm ∧ ∀ j : Fin 9, j.val < k.val → ∀ q : ArmRow, armTable[j.val]? = some q → v &&& q.mask ≠ q.pattern

/-- R65: EVENT performs the arm its selector takes, and that arm's own guard admits the event's operands. -/
def Obligations.EventPerformsSelectedArm : Prop :=
  ∀ (s : State) (d : Duration) (l : Level),
    exec (.event d l) s = exec ((selectArm (selector params s.fsm l.flip d)).toInstr d l.flip) s ∧
      ((selectArm (selector params s.fsm l.flip d)).toInstr d l.flip).wellFormed = true

/-! ## Parameters and the pulse classifier -/

/-- R7, R8: the sizes of the parameter record, which are the sizes the types have, and that the record meets the
constraints. `COUNTER_BITS` is open: each of 13 to 32 is the model's form of it (log entry 7). -/
def Obligations.ParametersMeetConstraints : Prop :=
  params.Valid ∧ paramsZero1000.Valid ∧
    params.frameBits = 36 ∧ params.durBits = 32 ∧ params.tick = 1 ∧ params.payloadCap = 36 ∧ params.lenBits = 16 ∧
    params.bitMin.toNat = 800 ∧ params.bitMax.toNat = 2150 ∧ params.counterBits ≤ 32 ∧
    params.cfgChannel = State.reset.cfgChannel ∧ (∀ d : Duration, d.toNat < 2 ^ params.durBits) ∧
    ∀ s : State, s.plen.toNat < 2 ^ params.lenBits ∧ s.pbuf.toList.length = params.payloadCap

/-- R58 to R63: what each window predicate says, and that `BitHit` does not depend on `ZERO_MAX`. -/
def Obligations.ClassifierWindowBounds : Prop :=
  ∀ d : Duration,
    (syncHit params d = true ↔ 300 ≤ d.toNat ∧ d.toNat ≤ 600) ∧
      (preHit params d = true ↔ 2000 ≤ d.toNat ∧ d.toNat ≤ 8000) ∧
      (eofHit params d = true ↔ 3000 ≤ d.toNat ∧ d.toNat ≤ 8000) ∧
      (oneHit params d = true ↔ 1650 ≤ d.toNat ∧ d.toNat ≤ 2150) ∧
      (zeroHit params d = true ↔ 800 ≤ d.toNat ∧ d.toNat ≤ 1100) ∧
      (zeroHit paramsZero1000 d = true ↔ 800 ≤ d.toNat ∧ d.toNat ≤ 1000) ∧
      (bitHit params d = true ↔ 800 ≤ d.toNat ∧ d.toNat ≤ 2150) ∧
      ∀ z : Duration, bitHit { params with zeroMax := z } d = bitHit params d

/-- R64: where two predicates are both true, which are disjoint, and which durations hit none or only `PreHit`. R64's
"only overlaps" leaves out that both bit windows lie inside the combined range (R61 to R63); that is stated here too. -/
def Obligations.ClassifierOverlaps : Prop :=
  ∀ d : Duration,
    ((preHit params d = true ∧ eofHit params d = true) ↔ 3000 ≤ d.toNat ∧ d.toNat ≤ 8000) ∧
      ((preHit params d = true ∧ oneHit params d = true) ↔ 2000 ≤ d.toNat ∧ d.toNat ≤ 2150) ∧
      ((preHit params d = true ∧ bitHit params d = true) ↔ 2000 ≤ d.toNat ∧ d.toNat ≤ 2150) ∧
      (oneHit params d = true ∨ zeroHit params d = true → bitHit params d = true) ∧
      (syncHit params d = true → preHit params d = false ∧ eofHit params d = false ∧ oneHit params d = false ∧
        zeroHit params d = false ∧ bitHit params d = false) ∧
      ¬ (zeroHit params d = true ∧ oneHit params d = true) ∧ ¬ (eofHit params d = true ∧ bitHit params d = true) ∧
      ¬ (zeroHit params d = true ∧ preHit params d = true) ∧
      ((syncHit params d = false ∧ preHit params d = false ∧ eofHit params d = false ∧ oneHit params d = false ∧
        zeroHit params d = false ∧ bitHit params d = false) ↔
        d.toNat < 300 ∨ (601 ≤ d.toNat ∧ d.toNat ≤ 799) ∨ 8000 < d.toNat) ∧
      (2151 ≤ d.toNat ∧ d.toNat ≤ 2999 → preHit params d = true ∧ syncHit params d = false ∧
        eofHit params d = false ∧ oneHit params d = false ∧ zeroHit params d = false ∧ bitHit params d = false)

/-! ## The transactions -/

/-- R113: RESET, its word, and that a RESET word with a reserved bit set is refused. Everything else in the state is
unchanged but `prev_level` and `PBUF`, which become unspecified; the words still to issue are the model's own (log
entry 4). -/
def Obligations.ResetPutsResetValues : Prop :=
  decodeTxn 0x000000000 = .ok .reset ∧
    (∀ w : TxnWord, w.toNat < 2 ^ 33 → w ≠ 0 → decodeTxn w = .error .reservedBits) ∧
    ∀ s : State, ∃ t : State, exec .reset s = .next t ∧ t.prevValid = false ∧ t.fsm = .pulseIdle ∧ t.plen = 0 ∧
      t.resValid = false ∧ t.resOverrun = false ∧ t.res = ResultRecord.zero ∧ t.refused = s.refused ∧
      t.cfgChannel = s.cfgChannel ∧ t.counterResets = s.counterResets ∧ t.pending = s.pending

/-- R114: the state at launch, and that it is the state after RESET on everything the spec specifies; the configured
channel, the words still to issue and the count of strobes, which RESET leaves alone, stand in fields of the model's own
(log entries 3, 4 and 5). -/
def Obligations.LaunchStateIsStateAfterReset : Prop :=
  State.reset.prevValid = false ∧ State.reset.fsm = .pulseIdle ∧ State.reset.plen = 0 ∧
    State.reset.resValid = false ∧ State.reset.resOverrun = false ∧ State.reset.res = ResultRecord.zero ∧
    State.reset.res.kind = .none ∧ State.reset.refused = false ∧
    ∀ s : State, s.refused = false → ∃ t : State, exec .reset s = .next t ∧
      Agree t { State.reset with
        cfgChannel := s.cfgChannel, pending := s.pending, counterResets := s.counterResets }

/-- R53: the three cases of POLL. The first poll latches and strobes, an unchanged level does nothing, a changed level
strobes, latches and delivers the event. A strobe shows as one more in the model's count of them (log entry 5). -/
def Obligations.PollSamplesThePin : Prop :=
  ∀ (s : State) (l : Level) (n : Duration),
    (s.prevValid = false →
      exec (.poll l n) s = .next { s with prevLevel := l, prevValid := true, counterResets := s.counterResets + 1 }) ∧
      (s.prevValid = true → l = s.prevLevel → exec (.poll l n) s = .next s) ∧
      (s.prevValid = true → l ≠ s.prevLevel → ∃ t : State, exec (.poll l n) s = .next t ∧
        exec (.event n l) { s with prevLevel := l, counterResets := s.counterResets + 1 } = .next t)

/-- R65 with R66 to R75: what EVENT does in each frame state. -/
def Obligations.EventAdvancesTheAutomaton : Prop :=
  ∀ (s : State) (d : Duration) (l : Level),
    (s.fsm = .pulseIdle → exec (.event d l) s =
      .next (if l = .low ∧ 300 ≤ d.toNat ∧ d.toNat ≤ 600 then { s with fsm := .preamble } else s)) ∧
      (s.fsm = .preamble → exec (.event d l) s =
        .next { s with fsm := if 2000 ≤ d.toNat ∧ d.toNat ≤ 8000 then .pulse else .pulseIdle }) ∧
      (s.fsm = .pulse → exec (.event d l) s =
        .next (if 300 ≤ d.toNat ∧ d.toNat ≤ 600 then { s with fsm := .data } else { s with plen := 0, fsm := .pulseIdle })) ∧
      (s.fsm = .data → 3000 ≤ d.toNat ∧ d.toNat ≤ 8000 → s.plen = 0 →
        exec (.event d l) s = .next { s with fsm := .pulseIdle }) ∧
      (s.fsm = .data → 3000 ≤ d.toNat ∧ d.toNat ≤ 8000 → s.plen ≠ 0 → ∃ u : State, exec .decode s = .next u ∧
        exec (.event d l) s = .next { u with plen := 0, fsm := .pulseIdle }) ∧
      (s.fsm = .data → 800 ≤ d.toNat ∧ d.toNat ≤ 2150 →
        exec (.event d l) s = .next { s.appendDuration d with fsm := .pulse }) ∧
      (s.fsm = .data → ¬ (3000 ≤ d.toNat ∧ d.toNat ≤ 8000) → ¬ (800 ≤ d.toNat ∧ d.toNat ≤ 2150) →
        exec (.event d l) s = .next { s with plen := 0, fsm := .pulseIdle })

/-- R57: an EVENT leaves the sampler's state alone, and with it everything that is not the automaton's or the result
port's. -/
def Obligations.EventLeavesSamplerAlone : Prop :=
  ∀ (s : State) (d : Duration) (l : Level), ∃ t : State, exec (.event d l) s = .next t ∧
    t.prevLevel = s.prevLevel ∧ t.prevValid = s.prevValid ∧ t.counterResets = s.counterResets ∧
    t.refused = s.refused ∧ t.cfgChannel = s.cfgChannel ∧ t.pending = s.pending ∧ t.freeCount = s.freeCount

/-- R94: ACK, its word, and that an ACK word with a reserved bit set is refused. -/
def Obligations.AckConsumesTheResult : Prop :=
  decodeTxn 0x600000000 = .ok .ack ∧
    (∀ w : TxnWord, 0x600000000 < w.toNat → decodeTxn w = .error .reservedBits) ∧
    ∀ s : State, exec .ack s = .next { s with resValid := false, resOverrun := false }

/-- R55: the counter is strobed once by the latching first POLL and by every POLL that sees a level change, and by
nothing else. The count of strobes is the model's form of that output (log entry 5). -/
def Obligations.CounterStrobedByPollOnly : Prop :=
  (∀ (s t : State) (l : Level) (n : Duration), exec (.poll l n) s = .next t →
    (s.prevValid = false ∨ l ≠ s.prevLevel → t.counterResets = s.counterResets + 1) ∧
      (¬ (s.prevValid = false ∨ l ≠ s.prevLevel) → t.counterResets = s.counterResets)) ∧
    ∀ (s t : State) (i : Instr), (∀ l n, i ≠ .poll l n) → exec i s = .next t → t.counterResets = s.counterResets

/-! ## The automaton's arms -/

/-- R66: IDLE_SYNC, its row and its effect, and which events of `PulseIdle` take it: a falling edge with a duration in
[300, 600]. Every other takes IDLE_STAY. -/
def Obligations.IdleSyncLeavesIdle : Prop :=
  armTable[0]? = some ⟨.idleSync, 0x18, 0x78⟩ ∧
    (∀ (s : State) (d : Duration) (p : Level), s.fsm = .pulseIdle → p = .high → 300 ≤ d.toNat → d.toNat ≤ 600 →
      exec (.idleSync d p) s = .next { s with fsm := .preamble }) ∧
    ∀ (d : Duration) (p : Level),
      (p = .high ∧ 300 ≤ d.toNat ∧ d.toNat ≤ 600 → selectArm (selector params .pulseIdle p d) = .idleSync) ∧
        (¬ (p = .high ∧ 300 ≤ d.toNat ∧ d.toNat ≤ 600) → selectArm (selector params .pulseIdle p d) = .idleStay)

/-- R67: IDLE_STAY and its row: the state stays as it is. -/
def Obligations.IdleStaySkips : Prop :=
  armTable[1]? = some ⟨.idleStay, 0x00, 0x60⟩ ∧
    ∀ (s : State) (d : Duration) (p : Level),
      s.fsm = .pulseIdle → ¬ (p = .high ∧ 300 ≤ d.toNat ∧ d.toNat ≤ 600) → exec (.idleStay d p) s = .next s

/-- R68 and R69: PRE_OK and PRE_ABANDON, their rows and their effects. -/
def Obligations.PreambleArmsAcceptOrAbandon : Prop :=
  armTable[2]? = some ⟨.preOk, 0x24, 0x64⟩ ∧ armTable[3]? = some ⟨.preAbandon, 0x20, 0x60⟩ ∧
    ∀ (s : State) (d : Duration), s.fsm = .preamble →
      ((2000 ≤ d.toNat ∧ d.toNat ≤ 8000) → exec (.preOk d) s = .next { s with fsm := .pulse }) ∧
        (¬ (2000 ≤ d.toNat ∧ d.toNat ≤ 8000) → exec (.preAbandon d) s = .next { s with fsm := .pulseIdle })

/-- R70 and R71: PULSE_OK and PULSE_FAIL, their rows and their effects. -/
def Obligations.PulseArmsAcceptOrDiscard : Prop :=
  armTable[4]? = some ⟨.pulseOk, 0x48, 0x68⟩ ∧ armTable[5]? = some ⟨.pulseFail, 0x40, 0x60⟩ ∧
    ∀ (s : State) (d : Duration), s.fsm = .pulse →
      ((300 ≤ d.toNat ∧ d.toNat ≤ 600) → exec (.pulseOk d) s = .next { s with fsm := .data }) ∧
        (¬ (300 ≤ d.toNat ∧ d.toNat ≤ 600) → exec (.pulseFail d) s = .next { s with plen := 0, fsm := .pulseIdle })

/-- R72: in `Data` end of frame is tested before a data bit and a data bit before failure, whatever the previous level,
for every parameter set; with the source's windows the first two are disjoint. -/
def Obligations.DataOutcomesInPriorityOrder : Prop :=
  (∀ (c : Params) (p : Level) (d : Duration),
    (eofHit c d = true → selectArm (selector c .data p d) = .dataEof) ∧
      (eofHit c d = false → bitHit c d = true → selectArm (selector c .data p d) = .dataBit) ∧
      (eofHit c d = false → bitHit c d = false → selectArm (selector c .data p d) = .dataFail)) ∧
    ∀ d : Duration, ¬ (eofHit params d = true ∧ bitHit params d = true)

/-- R73: DATA_EOF. An empty payload is dropped silently, any other is decoded and then cleared; a length that is not 36
is reported as `ERR_LENGTH`. -/
def Obligations.DataEofDecodesAndClears : Prop :=
  armTable[6]? = some ⟨.dataEof, 0x62, 0x62⟩ ∧
    ∀ (s : State) (d : Duration), s.fsm = .data → 3000 ≤ d.toNat → d.toNat ≤ 8000 →
      (s.plen = 0 → exec (.dataEof d) s = .next { s with fsm := .pulseIdle }) ∧
        (s.plen ≠ 0 → ∃ u : State, exec .decode s = .next u ∧
          exec (.dataEof d) s = .next { u with plen := 0, fsm := .pulseIdle } ∧
          (s.plen ≠ 36 → u.res.kind = .errLength ∧ u.res.errValue.toNat = s.plen.toNat))

/-- R74: DATA_BIT. The duration goes to cell `S.plen`, if there is one, the length counts up to 65535, and nothing else
changes but the frame state. -/
def Obligations.DataBitAppendsTheDuration : Prop :=
  armTable[7]? = some ⟨.dataBit, 0x61, 0x61⟩ ∧
    ∀ (s : State) (d : Duration),
      s.fsm = .data → ¬ (3000 ≤ d.toNat ∧ d.toNat ≤ 8000) → 800 ≤ d.toNat → d.toNat ≤ 2150 →
        ∃ t : State, exec (.dataBit d) s = .next t ∧ t = { s with fsm := .pulse, plen := t.plen, pbuf := t.pbuf } ∧
          t.plen.toNat = min (s.plen.toNat + 1) 65535 ∧
          ∀ k : Fin 36, t.pbuf[k] = if k.val = s.plen.toNat then d else s.pbuf[k]

/-- R75: DATA_FAIL: a framing discard, with no result. -/
def Obligations.DataFailDiscardsTheFrame : Prop :=
  armTable[8]? = some ⟨.dataFail, 0x60, 0x60⟩ ∧
    ∀ (s : State) (d : Duration),
      s.fsm = .data → ¬ (3000 ≤ d.toNat ∧ d.toNat ≤ 8000) → ¬ (800 ≤ d.toNat ∧ d.toNat ≤ 2150) →
        exec (.dataFail d) s = .next { s with plen := 0, fsm := .pulseIdle }

/-- What each arm does when it is given alone, outside the condition of its rule: nothing. The rules' pseudocode names
no other effect; that it is then a completed instruction is the model's reading (log entry 10). -/
def Obligations.ArmOutsideItsConditionDoesNothing : Prop :=
  ∀ (s : State) (d : Duration) (p : Level),
    (¬ (s.fsm = .pulseIdle ∧ p = .high ∧ 300 ≤ d.toNat ∧ d.toNat ≤ 600) → exec (.idleSync d p) s = .next s) ∧
      exec (.idleStay d p) s = .next s ∧
      (¬ (s.fsm = .preamble ∧ 2000 ≤ d.toNat ∧ d.toNat ≤ 8000) → exec (.preOk d) s = .next s) ∧
      (¬ (s.fsm = .preamble ∧ ¬ (2000 ≤ d.toNat ∧ d.toNat ≤ 8000)) → exec (.preAbandon d) s = .next s) ∧
      (¬ (s.fsm = .pulse ∧ 300 ≤ d.toNat ∧ d.toNat ≤ 600) → exec (.pulseOk d) s = .next s) ∧
      (¬ (s.fsm = .pulse ∧ ¬ (300 ≤ d.toNat ∧ d.toNat ≤ 600)) → exec (.pulseFail d) s = .next s) ∧
      (¬ (s.fsm = .data ∧ 3000 ≤ d.toNat ∧ d.toNat ≤ 8000) → exec (.dataEof d) s = .next s) ∧
      (¬ (s.fsm = .data ∧ ¬ (3000 ≤ d.toNat ∧ d.toNat ≤ 8000) ∧ 800 ≤ d.toNat ∧ d.toNat ≤ 2150) →
        exec (.dataBit d) s = .next s) ∧
      (¬ (s.fsm = .data ∧ ¬ (3000 ≤ d.toNat ∧ d.toNat ≤ 8000) ∧ ¬ (800 ≤ d.toNat ∧ d.toNat ≤ 2150)) →
        exec (.dataFail d) s = .next s)

/-! ## The bit slicer and the field extractor -/

/-- R80: the slicer's verdict on every duration. -/
def Obligations.SliceVerdicts : Prop :=
  ∀ d : Duration,
    (1650 ≤ d.toNat ∧ d.toNat ≤ 2150 → slice params d = .bit1) ∧
      (800 ≤ d.toNat ∧ d.toNat ≤ 1100 → slice params d = .bit0) ∧
      (¬ (1650 ≤ d.toNat ∧ d.toNat ≤ 2150) → ¬ (800 ≤ d.toNat ∧ d.toNat ≤ 1100) → slice params d = .outOfRange d)

/-- R81, 20_memory.md R26: a field is its bits, first received most significant, and the first out-of-range duration
stops it; for every parameter set, offset and width. -/
def Obligations.FieldIsMostSignificantFirst : Prop :=
  ∀ (c : Params) (cells : List Duration) (o w : Nat),
    ((∀ k < w, oneHit c (cells.getD (o + k) 0) = true ∨ zeroHit c (cells.getD (o + k) 0) = true) →
      extractField c cells ⟨o, w⟩ =
        .ok (∑ k ∈ Finset.range w, (oneHit c (cells.getD (o + k) 0)).toNat * 2 ^ (w - 1 - k))) ∧
      ∀ k < w, oneHit c (cells.getD (o + k) 0) = false → zeroHit c (cells.getD (o + k) 0) = false →
        (∀ j < k, oneHit c (cells.getD (o + j) 0) = true ∨ zeroHit c (cells.getD (o + j) 0) = true) →
        extractField c cells ⟨o, w⟩ = .error (cells.getD (o + k) 0)

/-- R83: the length check, which precedes every sample; for every parameter set, and for the machine's, where a frame has
36 bits. -/
def Obligations.WrongLengthReported : Prop :=
  (∀ (c : Params) (len : Nat) (cells : List Duration) (cfg : BitVec 8),
    len ≠ c.frameBits → decodeFn c len cells cfg = .errLength len) ∧
    ∀ (len : Nat) (cells : List Duration) (cfg : BitVec 8), len ≠ 36 → decodeFn params len cells cfg = .errLength len

/-- R84, R102: the duration at the lowest scanned position that is in neither bit window is reported, before any channel
check. -/
def Obligations.LowestBadScannedDurationReported : Prop :=
  ∀ (cells : List Duration) (cfg : BitVec 8) (p : Nat),
    Scanned p → ¬ InBitWindow (cells.getD p 0) → (∀ q < p, Scanned q → InBitWindow (cells.getD q 0)) →
      decodeFn params 36 cells cfg = .errRange (cells.getD p 0)

/-- R40: durations at positions 9 and 24..27 change no decode outcome, for every parameter set. -/
def Obligations.UnscannedPositionsIgnored : Prop :=
  ∀ (c : Params) (len : Nat) (cells cells' : List Duration) (cfg : BitVec 8),
    (∀ p, Scanned p → cells.getD p 0 = cells'.getD p 0) → decodeFn c len cells cfg = decodeFn c len cells' cfg

/-- R82 with R84 to R91: what `DecodeFn` returns for a frame of 36 durations whose scanned positions are all bits. -/
def Obligations.GoodFrameDecodesToItsFields : Prop :=
  ∀ (cells : List Duration) (cfg : BitVec 8), (∀ p, Scanned p → InBitWindow (cells.getD p 0)) →
    ∃ r : Reading, r.id.toNat = fieldSum cells 0 8 ∧ r.batteryOk.toNat = fieldSum cells 8 1 ∧
      r.channel.toNat = fieldSum cells 10 2 + 1 ∧
      r.tempTenths.toInt =
        (if fieldSum cells 12 12 > 2048 then (fieldSum cells 12 12 : Int) - 4096 else fieldSum cells 12 12) ∧
      r.tempInt.toInt = r.tempTenths.toInt.tdiv 10 ∧ r.tempFrac.toNat = r.tempTenths.toInt.natAbs % 10 ∧
      r.humidity.toNat = min (fieldSum cells 28 8) 100 ∧
      decodeFn params 36 cells cfg = if r.channel.toNat = cfg.toNat then .reading r else .errChannel r.channel

/-- R85: the reported channel is the raw channel plus 1. -/
def Obligations.ChannelIsRawPlusOne : Prop :=
  ∀ raw : RawFields, (interpret raw).channel.toNat = raw.channel.toNat + 1

/-- R86: the temperature, its integer part and its digit, in the record's own widths. -/
def Obligations.TemperatureInterpretation : Prop :=
  ∀ raw : RawFields,
    (raw.temp.toNat > 2048 → (interpret raw).tempTenths.toInt = (raw.temp.toNat : Int) - 4096) ∧
      (raw.temp.toNat ≤ 2048 → (interpret raw).tempTenths.toInt = raw.temp.toNat) ∧
      (interpret raw).tempInt.toInt = (interpret raw).tempTenths.toInt.tdiv 10 ∧
      (interpret raw).tempFrac.toNat = (interpret raw).tempTenths.toInt.natAbs % 10 ∧
      -2047 ≤ (interpret raw).tempTenths.toInt ∧ (interpret raw).tempTenths.toInt ≤ 2048 ∧
      -204 ≤ (interpret raw).tempInt.toInt ∧ (interpret raw).tempInt.toInt ≤ 204 ∧ (interpret raw).tempFrac.toNat ≤ 9

/-- 90_conflicts.md C8: every tenths value of [-2047, 2048] comes back from its 12-bit form; -2048 has none. -/
def Obligations.TemperatureRoundTrip : Prop :=
  (∀ v : Int, -2047 ≤ v → v ≤ 2048 → interpretTemp (BitVec.ofInt 12 v) = v) ∧
    ∀ raw : BitVec 12, interpretTemp raw ≠ -2048

/-- R87 and R88: humidity is clamped to 100, id and battery pass through. -/
def Obligations.HumidityClampedRestUnchanged : Prop :=
  ∀ raw : RawFields,
    (interpret raw).humidity.toNat = min raw.humidity.toNat 100 ∧ (interpret raw).id = raw.id ∧
      (interpret raw).batteryOk = raw.battery

/-- R89 and R90: the channel filter compares by integer value; a configured channel outside 1..4 passes no frame. -/
def Obligations.ChannelFilterDecides : Prop :=
  (∀ (r : Reading) (cfg : BitVec 8),
    (r.channel.toNat ≠ cfg.toNat → filterChannel r cfg = .errChannel r.channel) ∧
      (r.channel.toNat = cfg.toNat → filterChannel r cfg = .reading r)) ∧
    ∀ (raw : RawFields) (cfg : BitVec 8), ¬ (1 ≤ cfg.toNat ∧ cfg.toNat ≤ 4) →
      filterChannel (interpret raw) cfg = .errChannel (interpret raw).channel

/-! ## The result port -/

/-- R82, R92: DECODE answers a next state that differs from the one before it in the result port alone; the record is
that of the decode outcome, with every field the outcome does not name 0, and overrun is set if a result was
unconsumed. -/
def Obligations.DecodeWritesTheResultPort : Prop :=
  ∀ s : State, ∃ t : State, exec .decode s = .next t ∧
    t = { s with res := t.res, resValid := true, resOverrun := t.resOverrun } ∧
    (t.resOverrun = true ↔ s.resValid = true ∨ s.resOverrun = true) ∧
    match decodeFn params s.plen.toNat s.payload s.cfgChannel with
    | .reading r =>
      t.res.kind = .reading ∧ t.res.errValue = 0 ∧ t.res.id = r.id ∧ t.res.batteryOk = r.batteryOk ∧
        t.res.channel = r.channel ∧ t.res.tempTenths = r.tempTenths ∧ t.res.tempInt = r.tempInt ∧
        t.res.tempFrac = r.tempFrac ∧ t.res.humidity = r.humidity
    | .errLength len => t.res.kind = .errLength ∧ t.res.errValue.toNat = len ∧ t.res.NoReading
    | .errRange d => t.res.kind = .errRange ∧ t.res.errValue = d ∧ t.res.NoReading
    | .errChannel ch => t.res.kind = .errChannel ∧ t.res.errValue.toNat = ch.toNat ∧ t.res.NoReading

/-- R93: the dump in the record that DECODE writes. -/
def Obligations.DumpCopiesThePayload : Prop :=
  ∀ s : State, ∃ t : State, exec .decode s = .next t ∧ t.res.dumpLen.toNat = min s.plen.toNat 36 ∧
    ∀ k : Fin 36, t.res.dumpWord k = if k.val < min s.plen.toNat 36 then s.pbuf[k] else 0

/-- R79, 10_state.md R20: no instruction but RESET, ACK and DECODE changes what the host reads, unless the automaton is
in `Data` with a payload, and then the host reads what one DECODE of that payload writes. -/
def Obligations.ResultPortWrittenByDecodeOnly : Prop :=
  ∀ (s t : State) (i : Instr), i ≠ .reset → i ≠ .ack → i ≠ .decode → exec i s = .next t →
    t.view = s.view ∨
      (s.fsm = .data ∧ s.plen ≠ 0 ∧ ∃ u : State, exec .decode s = .next u ∧ t.view = u.view)

/-- 30_encoding.md R48, R49: where each field stands in the packed words, the two status bits, and the code of each
kind. -/
def Obligations.PackedRecordFieldPositions : Prop :=
  (∀ r : ResultRecord,
    r.res0.extractLsb' 0 3 = kindCode r.kind ∧ r.res0.extractLsb' 3 5 = 0 ∧ r.res0.extractLsb' 8 8 = r.id ∧
      r.res0.extractLsb' 16 1 = r.batteryOk ∧ r.res0.extractLsb' 17 3 = r.channel ∧
      r.res0.extractLsb' 20 13 = r.tempTenths ∧ r.res0.extractLsb' 33 9 = r.tempInt ∧
      r.res0.extractLsb' 42 4 = r.tempFrac ∧ r.res0.extractLsb' 46 7 = r.humidity ∧
      r.res0.extractLsb' 53 6 = r.dumpLen ∧ r.res0.extractLsb' 59 5 = 0 ∧ r.res1 = r.errValue ∧
      ∀ k : Fin 36, r.dumpWord k = r.dump[k]) ∧
    (∀ s : State, s.status.getLsbD 0 = s.resValid ∧ s.status.getLsbD 1 = s.resOverrun) ∧
    kindCode .none = 0 ∧ kindCode .reading = 1 ∧ kindCode .errLength = 2 ∧ kindCode .errRange = 3 ∧
    kindCode .errChannel = 4

/-- 30_encoding.md R49, R50: unpacking the packed words of every record gives the record back. -/
def Obligations.PackedRecordRoundTrip : Prop :=
  ∀ r : ResultRecord, unpackRecord r.res0 r.res1 r.dump = some r

/-! ## Steps and whole-machine rules -/

/-- 20_memory.md R29, R32: when the next word decodes, the step is the decoded instruction, run on the state whose word
has been taken off the model's queue (log entry 4). -/
def Obligations.StepRunsDecodedInstruction : Prop :=
  ∀ (s : State) (w : TxnWord) (ws : List TxnWord) (i : Instr),
    s.pending = w :: ws → decodeTxn w = .ok i → step s = exec i { s with pending := ws }

/-- 60_exceptions.md R101: the step that meets a RESET or ACK word with a reserved bit set changes no hardware state and
sets the mark; only the model's queue of words (log entries 4 and 6) may differ beside it. -/
def Obligations.RefusedWordSetsTheMark : Prop :=
  ∀ (s : State) (w : TxnWord) (ws : List TxnWord), s.pending = w :: ws →
    (0 < w.toNat ∧ w.toNat < 2 ^ 33) ∨ 3 * 2 ^ 33 < w.toNat →
      ∃ t : State, step s = .next t ∧ { t with pending := s.pending } = { s with refused := true }

/-- 60_exceptions.md R112: a host that issues no transaction changes no state. Having nothing to issue is the
model's empty queue (log entry 4). -/
def Obligations.YieldChangesNothing : Prop := ∀ s : State, s.pending = [] → step s = .next s

/-- 60_exceptions.md R98, 42_frame_synchronizer.md R76: no instruction and no step stops the block. -/
def Obligations.NothingStopsTheBlock : Prop :=
  (∀ (i : Instr) (s : State), Continues (exec i s)) ∧ ∀ s : State, Continues (step s)

/-- 10_state.md R22: no instruction writes `S.refused`, no step clears it, and it is 0 at launch. -/
def Obligations.RefusedMarkIsNeverCleared : Prop :=
  State.reset.refused = false ∧ (∀ (i : Instr) (s t : State), exec i s = .next t → t.refused = s.refused) ∧
    ∀ s t : State, step s = .next t → s.refused = true → t.refused = true

/-- 10_state.md R21: no step writes the configured channel. And the model's queue of words (log entry 4) loses exactly its
first word at each step; that a refused word leaves it too is the model's choice (log entry 6). 20_memory.md R32 gives the
transactions one order; the queue is the model's form of it. -/
def Obligations.StepKeepsChannelAndWordOrder : Prop :=
  ∀ s t : State, step s = .next t → t.cfgChannel = s.cfgChannel ∧ t.pending = s.pending.tail

/-- 10_state.md R19: the launch state meets I1, I2 and I3, and every step keeps them, so every reachable state does. -/
def Obligations.StepKeepsStateInvariants : Prop :=
  State.reset.Inv ∧ ∀ s t : State, s.Inv → step s = .next t → t.Inv

/-- 30_encoding.md R48, R49, 60_exceptions.md R99: every step keeps the result port to records the rules admit. -/
def Obligations.StepKeepsResultPortLegal : Prop :=
  ∀ s t : State, s.Inv → s.PortOk → step s = .next t → t.PortOk

/-- What the launch state meets: I1 to I3, a result port the rules admit (30 R48, R49), and the sampler's relation of
42_frame_synchronizer.md R77. -/
def Obligations.LaunchStateMeetsInvariants : Prop :=
  State.reset.Inv ∧ State.reset.PortOk ∧ State.reset.SamplerInv

/-- 42_frame_synchronizer.md R77: under the sampler, with no direct EVENT, the pin is low in `Preamble` and `Data` and
high in `Pulse`, so the next edge there is a gap's or a pulse's. -/
def Obligations.SamplerKeepsPulsesAndGapsApart : Prop :=
  ∀ (s t : State) (i : Instr), s.SamplerInv → (∃ l n, i = .poll l n) ∨ i = .reset ∨ i = .ack →
    exec i s = .next t → t.SamplerInv

/-- 10_state.md R15, R18, 93_implementation_defined.md U1, U2: what the spec leaves unspecified is never read. Two states
that agree on everything specified step to two such states, and the host reads the same. -/
def Obligations.UnspecifiedValuesAreNeverRead : Prop :=
  ∀ s t : State, Agree s t →
    ∃ s' t' : State, step s = .next s' ∧ step t = .next t' ∧ Agree s' t' ∧ s'.view = t'.view

/-- 42_frame_synchronizer.md R78: events of which none is a falling edge in the sync window leave `PulseIdle` and
everything else as they were. -/
def Obligations.NoiseLeavesIdleUntouched : Prop :=
  ∀ (s : State) (es : List (Duration × Level)), s.fsm = .pulseIdle →
    (∀ e ∈ es, ¬ (e.2 = .low ∧ 300 ≤ e.1.toNat ∧ e.1.toNat ≤ 600)) →
      runInstrs (es.map (fun e => .event e.1 e.2)) s = .next s

/-- 30_encoding.md R38: a well-timed frame of n bit gaps hands exactly those gaps to the decoder and leaves the block
idle; with n = 0 it is dropped silently. -/
def Obligations.FrameHandsItsGapsToTheDecoder : Prop :=
  ∀ (s : State) (sync pregap trail eofgap : Duration) (bits : List (Duration × Duration)),
    s.fsm = .pulseIdle → s.plen = 0 → (300 ≤ sync.toNat ∧ sync.toNat ≤ 600) →
    (2000 ≤ pregap.toNat ∧ pregap.toNat ≤ 8000) →
    (∀ b ∈ bits, (300 ≤ b.1.toNat ∧ b.1.toNat ≤ 600) ∧ (800 ≤ b.2.toNat ∧ b.2.toNat ≤ 2150)) →
    (300 ≤ trail.toNat ∧ trail.toNat ≤ 600) → (3000 ≤ eofgap.toNat ∧ eofgap.toNat ≤ 8000) →
      (bits = [] → runInstrs (frameEvents sync pregap bits trail eofgap) s = .next s) ∧
        (bits ≠ [] → ∃ t : State, runInstrs (frameEvents sync pregap bits trail eofgap) s = .next t ∧
          t.fsm = .pulseIdle ∧ t.plen = 0 ∧ t.resValid = true ∧ t.resOverrun = (s.resValid || s.resOverrun) ∧
          t.res = { recordOf (decodeFn params (min bits.length 65535) ((bits.map Prod.snd).take 36) s.cfgChannel) with
            dumpLen := t.res.dumpLen, dump := t.res.dump } ∧
          t.res.dumpLen.toNat = min bits.length 36 ∧
          ∀ k : Fin 36, t.res.dumpWord k = (bits.map Prod.snd).getD k.val 0)

/-! ## The host's side -/

/-- 40_sampler.md R54, 70_reset_and_hazards.md R116: the model's counter, which wraps, reads every interval the windows
care about exactly, whatever its open width, and aliases after `2^COUNTER_BITS`. R54 leaves wrapping or saturating to the
platform, and the width is open: the second clause is the model's choice of a counter that wraps (log entry 7). -/
def Obligations.CounterReadsWindowsExactly : Prop :=
  (∀ e : Nat, e ≤ 8000 → (counterReading params e).toNat = e) ∧
    ∀ e : Nat, counterReading params (2 ^ params.counterBits + e) = counterReading params e

/-- 45_result_port.md R96: the text record of a reading. That there is none for any other record is the model's form of
"defined only for `kind = READING`" (log entry 13). -/
def Obligations.RenderWritesTheTextRecord : Prop :=
  ∀ (r : ResultRecord) (time : String),
    (r.kind = .reading → render r time =
      some (openBrace ++ "\"time\" : \"" ++ time ++ "\", \"model\" : \"Nexus-TH\", \"id\" : " ++ toString r.id.toNat
        ++ ", \"channel\" : " ++ toString r.channel.toNat ++ ", \"battery_ok\" : " ++ toString r.batteryOk.toNat
        ++ ", \"temperature_C\" : " ++ toString r.tempInt.toInt ++ "." ++ toString r.tempFrac.toNat
        ++ ", \"humidity\" : " ++ toString r.humidity.toNat ++ closeBrace)) ∧
      (r.kind ≠ .reading → render r time = none)
end

