-- ==== Sys2Proof/Laws/Decode.lean ====
section
/-!
SUPPORT. The fields of a transaction word and of a selector, and the automaton's decode table: every selector has a
row, and which arm each state's selectors take.
-/

namespace Sys2Proof

open Sys2Proof.Machine

/-! ## Transaction words -/

@[simp] theorem levelOfBit_levelBit (l : Level) : levelOfBit (levelBit l) = l := by cases l <;> rfl

@[simp] theorem levelBit_levelOfBit (b : BitVec 1) : levelBit (levelOfBit b) = b := by
  revert b; decide

@[simp] theorem Level.flip_flip (l : Level) : l.flip.flip = l := by cases l <;> rfl

@[simp] theorem txnKind_txnWord (k : BitVec 2) (l : BitVec 1) (v : Duration) : txnKind (txnWord k l v) = k := by
  ext i hi
  simp only [txnKind, txnWord, BitVec.getElem_extractLsb', BitVec.getLsbD_append, Config.durBits]
  rw [if_neg (by omega), if_neg (by omega), show 33 + i - 32 - 1 = i from by omega, BitVec.getLsbD_eq_getElem hi]

@[simp] theorem txnLevel_txnWord (k : BitVec 2) (l : BitVec 1) (v : Duration) : txnLevel (txnWord k l v) = l := by
  ext i hi
  simp only [txnLevel, txnWord, BitVec.getElem_extractLsb', BitVec.getLsbD_append, Config.durBits]
  rw [if_neg (by omega), if_pos (by omega), show 32 + i - 32 = i from by omega, BitVec.getLsbD_eq_getElem hi]

@[simp] theorem txnValue_txnWord (k : BitVec 2) (l : BitVec 1) (v : Duration) : txnValue (txnWord k l v) = v := by
  ext i hi
  simp only [txnValue, txnWord, BitVec.getElem_extractLsb', BitVec.getLsbD_append, Config.durBits]
  rw [if_pos (show 0 + i < 32 by simpa using hi), show 0 + i = i from by omega, BitVec.getLsbD_eq_getElem hi]

/-- A word is its three fields. -/
theorem txnWord_fields (w : TxnWord) : txnWord (txnKind w) (txnLevel w) (txnValue w) = w := by
  refine BitVec.eq_of_getLsbD_eq fun i hi => ?_
  simp only [txnWord, txnKind, txnLevel, txnValue, BitVec.getLsbD_append, BitVec.getLsbD_extractLsb', Config.durBits]
  split
  · rw [Nat.zero_add]; simp [*]
  · split
    · rw [show 32 + (i - 32) = i from by omega]; simp [*]
    · rw [show 33 + (i - 32 - 1) = i from by omega, decide_eq_true (by omega), Bool.true_and]

/-- A word as a number: its fields at their weights. -/
theorem toNat_txnWord (k : BitVec 2) (l : BitVec 1) (v : Duration) :
    (txnWord k l v).toNat = k.toNat * 2 ^ 33 + l.toNat * 2 ^ 32 + v.toNat := by
  have hv : v.toNat < 2 ^ 32 := v.isLt
  have hl := l.isLt
  have h1 : (k ++ l).toNat = k.toNat * 2 + l.toNat := by
    rw [BitVec.toNat_append, ← Nat.shiftLeft_add_eq_or_of_lt hl, Nat.shiftLeft_eq]
  rw [txnWord, BitVec.toNat_append, ← Nat.shiftLeft_add_eq_or_of_lt hv, Nat.shiftLeft_eq, h1]
  simp only [Config.durBits]
  omega

/-! ## The decode table -/

@[simp] theorem stateOfCode_stateCode (f : FrameState) : stateOfCode (stateCode f) = f := by cases f <;> rfl

/-- "The table is total" (30_encoding.md R47): every selector has a first matching row. -/
theorem armTable_total (v : Selector) : (armTable.find? (rowHits v)).isSome = true := by
  revert v; decide

/-- A selector reads back its state. -/
@[simp] theorem selectorState_selector (c : Params) (f : FrameState) (p : Level) (d : Duration) :
    selectorState (selector c f p d) = f := by
  unfold selector
  cases f <;> cases p <;> cases syncHit c d <;> cases preHit c d <;> cases eofHit c d <;> cases bitHit c d <;> decide

/-- A selector reads back its previous level. -/
@[simp] theorem selectorPrev_selector (c : Params) (f : FrameState) (p : Level) (d : Duration) :
    selectorPrev (selector c f p d) = p := by
  unfold selector
  cases f <;> cases p <;> cases syncHit c d <;> cases preHit c d <;> cases eofHit c d <;> cases bitHit c d <;> decide

/-- The arms taken in `PulseIdle` (R66, R67). -/
theorem selectArm_pulseIdle (c : Params) (p : Level) (d : Duration) :
    selectArm (selector c .pulseIdle p d) = if p = .high ∧ syncHit c d = true then .idleSync else .idleStay := by
  unfold selector
  cases p <;> cases syncHit c d <;> cases preHit c d <;> cases eofHit c d <;> cases bitHit c d <;> decide

/-- The arms taken in `Preamble` (R68, R69). -/
theorem selectArm_preamble (c : Params) (p : Level) (d : Duration) :
    selectArm (selector c .preamble p d) = if preHit c d = true then .preOk else .preAbandon := by
  unfold selector
  cases p <;> cases syncHit c d <;> cases preHit c d <;> cases eofHit c d <;> cases bitHit c d <;> decide

/-- The arms taken in `Pulse` (R70, R71). -/
theorem selectArm_pulse (c : Params) (p : Level) (d : Duration) :
    selectArm (selector c .pulse p d) = if syncHit c d = true then .pulseOk else .pulseFail := by
  unfold selector
  cases p <;> cases syncHit c d <;> cases preHit c d <;> cases eofHit c d <;> cases bitHit c d <;> decide

/-- The arms taken in `Data`, in their priority order (R72 to R75). -/
theorem selectArm_data (c : Params) (p : Level) (d : Duration) :
    selectArm (selector c .data p d) =
      if eofHit c d = true then .dataEof else if bitHit c d = true then .dataBit else .dataFail := by
  unfold selector
  cases p <;> cases syncHit c d <;> cases preHit c d <;> cases eofHit c d <;> cases bitHit c d <;> decide

end Sys2Proof
end

