-- ==== Sys2Proof/Laws/State.lean ====
section
/-!
SUPPORT. One lemma for each field of State and each named update of Machine/Flags.lean and Machine/Ops.lean, so that no
proof unfolds a record update. Each is true by rfl, and is proved by the tactic so that simp also rewrites the
Decidable arguments that mention the field.
-/

namespace Sys2Proof.Machine

variable (s : State)

/-! ## setFsm -/

@[simp] theorem State.setFsm_prevValid (f : FrameState) : (s.setFsm f).prevValid = s.prevValid := by rfl
@[simp] theorem State.setFsm_prevLevel (f : FrameState) : (s.setFsm f).prevLevel = s.prevLevel := by rfl
@[simp] theorem State.setFsm_fsm (f : FrameState) : (s.setFsm f).fsm = f := by rfl
@[simp] theorem State.setFsm_plen (f : FrameState) : (s.setFsm f).plen = s.plen := by rfl
@[simp] theorem State.setFsm_pbuf (f : FrameState) : (s.setFsm f).pbuf = s.pbuf := by rfl
@[simp] theorem State.setFsm_resValid (f : FrameState) : (s.setFsm f).resValid = s.resValid := by rfl
@[simp] theorem State.setFsm_resOverrun (f : FrameState) : (s.setFsm f).resOverrun = s.resOverrun := by rfl
@[simp] theorem State.setFsm_res (f : FrameState) : (s.setFsm f).res = s.res := by rfl
@[simp] theorem State.setFsm_refused (f : FrameState) : (s.setFsm f).refused = s.refused := by rfl
@[simp] theorem State.setFsm_cfgChannel (f : FrameState) : (s.setFsm f).cfgChannel = s.cfgChannel := by rfl
@[simp] theorem State.setFsm_pending (f : FrameState) : (s.setFsm f).pending = s.pending := by rfl
@[simp] theorem State.setFsm_counterResets (f : FrameState) :
    (s.setFsm f).counterResets = s.counterResets := by rfl
@[simp] theorem State.setFsm_freeCount (f : FrameState) : (s.setFsm f).freeCount = s.freeCount := by rfl

/-! ## setPrevLevel -/

@[simp] theorem State.setPrevLevel_prevValid (l : Level) : (s.setPrevLevel l).prevValid = s.prevValid := by rfl
@[simp] theorem State.setPrevLevel_prevLevel (l : Level) : (s.setPrevLevel l).prevLevel = l := by rfl
@[simp] theorem State.setPrevLevel_fsm (l : Level) : (s.setPrevLevel l).fsm = s.fsm := by rfl
@[simp] theorem State.setPrevLevel_plen (l : Level) : (s.setPrevLevel l).plen = s.plen := by rfl
@[simp] theorem State.setPrevLevel_pbuf (l : Level) : (s.setPrevLevel l).pbuf = s.pbuf := by rfl
@[simp] theorem State.setPrevLevel_resValid (l : Level) : (s.setPrevLevel l).resValid = s.resValid := by rfl
@[simp] theorem State.setPrevLevel_resOverrun (l : Level) : (s.setPrevLevel l).resOverrun = s.resOverrun := by rfl
@[simp] theorem State.setPrevLevel_res (l : Level) : (s.setPrevLevel l).res = s.res := by rfl
@[simp] theorem State.setPrevLevel_refused (l : Level) : (s.setPrevLevel l).refused = s.refused := by rfl
@[simp] theorem State.setPrevLevel_cfgChannel (l : Level) : (s.setPrevLevel l).cfgChannel = s.cfgChannel := by rfl
@[simp] theorem State.setPrevLevel_pending (l : Level) : (s.setPrevLevel l).pending = s.pending := by rfl
@[simp] theorem State.setPrevLevel_counterResets (l : Level) :
    (s.setPrevLevel l).counterResets = s.counterResets := by rfl
@[simp] theorem State.setPrevLevel_freeCount (l : Level) : (s.setPrevLevel l).freeCount = s.freeCount := by rfl

/-! ## latchLevel -/

@[simp] theorem State.latchLevel_prevValid (l : Level) : (s.latchLevel l).prevValid = true := by rfl
@[simp] theorem State.latchLevel_prevLevel (l : Level) : (s.latchLevel l).prevLevel = l := by rfl
@[simp] theorem State.latchLevel_fsm (l : Level) : (s.latchLevel l).fsm = s.fsm := by rfl
@[simp] theorem State.latchLevel_plen (l : Level) : (s.latchLevel l).plen = s.plen := by rfl
@[simp] theorem State.latchLevel_pbuf (l : Level) : (s.latchLevel l).pbuf = s.pbuf := by rfl
@[simp] theorem State.latchLevel_resValid (l : Level) : (s.latchLevel l).resValid = s.resValid := by rfl
@[simp] theorem State.latchLevel_resOverrun (l : Level) : (s.latchLevel l).resOverrun = s.resOverrun := by rfl
@[simp] theorem State.latchLevel_res (l : Level) : (s.latchLevel l).res = s.res := by rfl
@[simp] theorem State.latchLevel_refused (l : Level) : (s.latchLevel l).refused = s.refused := by rfl
@[simp] theorem State.latchLevel_cfgChannel (l : Level) : (s.latchLevel l).cfgChannel = s.cfgChannel := by rfl
@[simp] theorem State.latchLevel_pending (l : Level) : (s.latchLevel l).pending = s.pending := by rfl
@[simp] theorem State.latchLevel_counterResets (l : Level) :
    (s.latchLevel l).counterResets = s.counterResets := by rfl
@[simp] theorem State.latchLevel_freeCount (l : Level) : (s.latchLevel l).freeCount = s.freeCount := by rfl

/-! ## strobeCounter -/

@[simp] theorem State.strobeCounter_prevValid : s.strobeCounter.prevValid = s.prevValid := by rfl
@[simp] theorem State.strobeCounter_prevLevel : s.strobeCounter.prevLevel = s.prevLevel := by rfl
@[simp] theorem State.strobeCounter_fsm : s.strobeCounter.fsm = s.fsm := by rfl
@[simp] theorem State.strobeCounter_plen : s.strobeCounter.plen = s.plen := by rfl
@[simp] theorem State.strobeCounter_pbuf : s.strobeCounter.pbuf = s.pbuf := by rfl
@[simp] theorem State.strobeCounter_resValid : s.strobeCounter.resValid = s.resValid := by rfl
@[simp] theorem State.strobeCounter_resOverrun : s.strobeCounter.resOverrun = s.resOverrun := by rfl
@[simp] theorem State.strobeCounter_res : s.strobeCounter.res = s.res := by rfl
@[simp] theorem State.strobeCounter_refused : s.strobeCounter.refused = s.refused := by rfl
@[simp] theorem State.strobeCounter_cfgChannel : s.strobeCounter.cfgChannel = s.cfgChannel := by rfl
@[simp] theorem State.strobeCounter_pending : s.strobeCounter.pending = s.pending := by rfl
@[simp] theorem State.strobeCounter_counterResets : s.strobeCounter.counterResets = s.counterResets + 1 := by rfl
@[simp] theorem State.strobeCounter_freeCount : s.strobeCounter.freeCount = s.freeCount := by rfl

/-! ## clearPayload -/

@[simp] theorem State.clearPayload_prevValid : s.clearPayload.prevValid = s.prevValid := by rfl
@[simp] theorem State.clearPayload_prevLevel : s.clearPayload.prevLevel = s.prevLevel := by rfl
@[simp] theorem State.clearPayload_fsm : s.clearPayload.fsm = s.fsm := by rfl
@[simp] theorem State.clearPayload_plen : s.clearPayload.plen = 0 := by rfl
@[simp] theorem State.clearPayload_pbuf : s.clearPayload.pbuf = s.pbuf := by rfl
@[simp] theorem State.clearPayload_resValid : s.clearPayload.resValid = s.resValid := by rfl
@[simp] theorem State.clearPayload_resOverrun : s.clearPayload.resOverrun = s.resOverrun := by rfl
@[simp] theorem State.clearPayload_res : s.clearPayload.res = s.res := by rfl
@[simp] theorem State.clearPayload_refused : s.clearPayload.refused = s.refused := by rfl
@[simp] theorem State.clearPayload_cfgChannel : s.clearPayload.cfgChannel = s.cfgChannel := by rfl
@[simp] theorem State.clearPayload_pending : s.clearPayload.pending = s.pending := by rfl
@[simp] theorem State.clearPayload_counterResets : s.clearPayload.counterResets = s.counterResets := by rfl
@[simp] theorem State.clearPayload_freeCount : s.clearPayload.freeCount = s.freeCount := by rfl

/-! ## appendDuration -/

@[simp] theorem State.appendDuration_prevValid (d : Duration) :
    (s.appendDuration d).prevValid = s.prevValid := by rfl
@[simp] theorem State.appendDuration_prevLevel (d : Duration) :
    (s.appendDuration d).prevLevel = s.prevLevel := by rfl
@[simp] theorem State.appendDuration_fsm (d : Duration) : (s.appendDuration d).fsm = s.fsm := by rfl
@[simp] theorem State.appendDuration_plen (d : Duration) :
    (s.appendDuration d).plen = BitVec.ofNat Config.lenBits (min (s.plen.toNat + 1) Config.lenMax) := by rfl
@[simp] theorem State.appendDuration_pbuf (d : Duration) : (s.appendDuration d).pbuf =
      if s.plen.toNat < Config.payloadCap then s.pbuf.setIfInBounds s.plen.toNat d else s.pbuf := by rfl
@[simp] theorem State.appendDuration_resValid (d : Duration) : (s.appendDuration d).resValid = s.resValid := by rfl
@[simp] theorem State.appendDuration_resOverrun (d : Duration) :
    (s.appendDuration d).resOverrun = s.resOverrun := by rfl
@[simp] theorem State.appendDuration_res (d : Duration) : (s.appendDuration d).res = s.res := by rfl
@[simp] theorem State.appendDuration_refused (d : Duration) : (s.appendDuration d).refused = s.refused := by rfl
@[simp] theorem State.appendDuration_cfgChannel (d : Duration) :
    (s.appendDuration d).cfgChannel = s.cfgChannel := by rfl
@[simp] theorem State.appendDuration_pending (d : Duration) : (s.appendDuration d).pending = s.pending := by rfl
@[simp] theorem State.appendDuration_counterResets (d : Duration) :
    (s.appendDuration d).counterResets = s.counterResets := by rfl
@[simp] theorem State.appendDuration_freeCount (d : Duration) :
    (s.appendDuration d).freeCount = s.freeCount := by rfl

/-! ## flagResult -/

@[simp] theorem State.flagResult_prevValid : s.flagResult.prevValid = s.prevValid := by rfl
@[simp] theorem State.flagResult_prevLevel : s.flagResult.prevLevel = s.prevLevel := by rfl
@[simp] theorem State.flagResult_fsm : s.flagResult.fsm = s.fsm := by rfl
@[simp] theorem State.flagResult_plen : s.flagResult.plen = s.plen := by rfl
@[simp] theorem State.flagResult_pbuf : s.flagResult.pbuf = s.pbuf := by rfl
@[simp] theorem State.flagResult_resValid : s.flagResult.resValid = true := by rfl
@[simp] theorem State.flagResult_resOverrun : s.flagResult.resOverrun = (s.resValid || s.resOverrun) := by rfl
@[simp] theorem State.flagResult_res : s.flagResult.res = s.res := by rfl
@[simp] theorem State.flagResult_refused : s.flagResult.refused = s.refused := by rfl
@[simp] theorem State.flagResult_cfgChannel : s.flagResult.cfgChannel = s.cfgChannel := by rfl
@[simp] theorem State.flagResult_pending : s.flagResult.pending = s.pending := by rfl
@[simp] theorem State.flagResult_counterResets : s.flagResult.counterResets = s.counterResets := by rfl
@[simp] theorem State.flagResult_freeCount : s.flagResult.freeCount = s.freeCount := by rfl

/-! ## clearFlags -/

@[simp] theorem State.clearFlags_prevValid : s.clearFlags.prevValid = s.prevValid := by rfl
@[simp] theorem State.clearFlags_prevLevel : s.clearFlags.prevLevel = s.prevLevel := by rfl
@[simp] theorem State.clearFlags_fsm : s.clearFlags.fsm = s.fsm := by rfl
@[simp] theorem State.clearFlags_plen : s.clearFlags.plen = s.plen := by rfl
@[simp] theorem State.clearFlags_pbuf : s.clearFlags.pbuf = s.pbuf := by rfl
@[simp] theorem State.clearFlags_resValid : s.clearFlags.resValid = false := by rfl
@[simp] theorem State.clearFlags_resOverrun : s.clearFlags.resOverrun = false := by rfl
@[simp] theorem State.clearFlags_res : s.clearFlags.res = s.res := by rfl
@[simp] theorem State.clearFlags_refused : s.clearFlags.refused = s.refused := by rfl
@[simp] theorem State.clearFlags_cfgChannel : s.clearFlags.cfgChannel = s.cfgChannel := by rfl
@[simp] theorem State.clearFlags_pending : s.clearFlags.pending = s.pending := by rfl
@[simp] theorem State.clearFlags_counterResets : s.clearFlags.counterResets = s.counterResets := by rfl
@[simp] theorem State.clearFlags_freeCount : s.clearFlags.freeCount = s.freeCount := by rfl

/-! ## setRecord -/

@[simp] theorem State.setRecord_prevValid (r : ResultRecord) : (s.setRecord r).prevValid = s.prevValid := by rfl
@[simp] theorem State.setRecord_prevLevel (r : ResultRecord) : (s.setRecord r).prevLevel = s.prevLevel := by rfl
@[simp] theorem State.setRecord_fsm (r : ResultRecord) : (s.setRecord r).fsm = s.fsm := by rfl
@[simp] theorem State.setRecord_plen (r : ResultRecord) : (s.setRecord r).plen = s.plen := by rfl
@[simp] theorem State.setRecord_pbuf (r : ResultRecord) : (s.setRecord r).pbuf = s.pbuf := by rfl
@[simp] theorem State.setRecord_resValid (r : ResultRecord) : (s.setRecord r).resValid = s.resValid := by rfl
@[simp] theorem State.setRecord_resOverrun (r : ResultRecord) : (s.setRecord r).resOverrun = s.resOverrun := by rfl
@[simp] theorem State.setRecord_res (r : ResultRecord) : (s.setRecord r).res = r := by rfl
@[simp] theorem State.setRecord_refused (r : ResultRecord) : (s.setRecord r).refused = s.refused := by rfl
@[simp] theorem State.setRecord_cfgChannel (r : ResultRecord) : (s.setRecord r).cfgChannel = s.cfgChannel := by rfl
@[simp] theorem State.setRecord_pending (r : ResultRecord) : (s.setRecord r).pending = s.pending := by rfl
@[simp] theorem State.setRecord_counterResets (r : ResultRecord) :
    (s.setRecord r).counterResets = s.counterResets := by rfl
@[simp] theorem State.setRecord_freeCount (r : ResultRecord) : (s.setRecord r).freeCount = s.freeCount := by rfl

/-! ## writeResult -/

@[simp] theorem State.writeResult_prevValid (r : DecodeResult) :
    (s.writeResult r).prevValid = s.prevValid := by rfl
@[simp] theorem State.writeResult_prevLevel (r : DecodeResult) :
    (s.writeResult r).prevLevel = s.prevLevel := by rfl
@[simp] theorem State.writeResult_fsm (r : DecodeResult) : (s.writeResult r).fsm = s.fsm := by rfl
@[simp] theorem State.writeResult_plen (r : DecodeResult) : (s.writeResult r).plen = s.plen := by rfl
@[simp] theorem State.writeResult_pbuf (r : DecodeResult) : (s.writeResult r).pbuf = s.pbuf := by rfl
@[simp] theorem State.writeResult_resValid (r : DecodeResult) : (s.writeResult r).resValid = true := by rfl
@[simp] theorem State.writeResult_resOverrun (r : DecodeResult) :
    (s.writeResult r).resOverrun = (s.resValid || s.resOverrun) := by rfl
@[simp] theorem State.writeResult_res (r : DecodeResult) :
    (s.writeResult r).res = (recordOf r).withDump s := by rfl
@[simp] theorem State.writeResult_refused (r : DecodeResult) : (s.writeResult r).refused = s.refused := by rfl
@[simp] theorem State.writeResult_cfgChannel (r : DecodeResult) :
    (s.writeResult r).cfgChannel = s.cfgChannel := by rfl
@[simp] theorem State.writeResult_pending (r : DecodeResult) : (s.writeResult r).pending = s.pending := by rfl
@[simp] theorem State.writeResult_counterResets (r : DecodeResult) :
    (s.writeResult r).counterResets = s.counterResets := by rfl
@[simp] theorem State.writeResult_freeCount (r : DecodeResult) :
    (s.writeResult r).freeCount = s.freeCount := by rfl

/-! ## markRefused -/

@[simp] theorem State.markRefused_prevValid : s.markRefused.prevValid = s.prevValid := by rfl
@[simp] theorem State.markRefused_prevLevel : s.markRefused.prevLevel = s.prevLevel := by rfl
@[simp] theorem State.markRefused_fsm : s.markRefused.fsm = s.fsm := by rfl
@[simp] theorem State.markRefused_plen : s.markRefused.plen = s.plen := by rfl
@[simp] theorem State.markRefused_pbuf : s.markRefused.pbuf = s.pbuf := by rfl
@[simp] theorem State.markRefused_resValid : s.markRefused.resValid = s.resValid := by rfl
@[simp] theorem State.markRefused_resOverrun : s.markRefused.resOverrun = s.resOverrun := by rfl
@[simp] theorem State.markRefused_res : s.markRefused.res = s.res := by rfl
@[simp] theorem State.markRefused_refused : s.markRefused.refused = true := by rfl
@[simp] theorem State.markRefused_cfgChannel : s.markRefused.cfgChannel = s.cfgChannel := by rfl
@[simp] theorem State.markRefused_pending : s.markRefused.pending = s.pending := by rfl
@[simp] theorem State.markRefused_counterResets : s.markRefused.counterResets = s.counterResets := by rfl
@[simp] theorem State.markRefused_freeCount : s.markRefused.freeCount = s.freeCount := by rfl

/-! ## setPending -/

@[simp] theorem State.setPending_prevValid (ws : List TxnWord) :
    (s.setPending ws).prevValid = s.prevValid := by rfl
@[simp] theorem State.setPending_prevLevel (ws : List TxnWord) :
    (s.setPending ws).prevLevel = s.prevLevel := by rfl
@[simp] theorem State.setPending_fsm (ws : List TxnWord) : (s.setPending ws).fsm = s.fsm := by rfl
@[simp] theorem State.setPending_plen (ws : List TxnWord) : (s.setPending ws).plen = s.plen := by rfl
@[simp] theorem State.setPending_pbuf (ws : List TxnWord) : (s.setPending ws).pbuf = s.pbuf := by rfl
@[simp] theorem State.setPending_resValid (ws : List TxnWord) : (s.setPending ws).resValid = s.resValid := by rfl
@[simp] theorem State.setPending_resOverrun (ws : List TxnWord) :
    (s.setPending ws).resOverrun = s.resOverrun := by rfl
@[simp] theorem State.setPending_res (ws : List TxnWord) : (s.setPending ws).res = s.res := by rfl
@[simp] theorem State.setPending_refused (ws : List TxnWord) : (s.setPending ws).refused = s.refused := by rfl
@[simp] theorem State.setPending_cfgChannel (ws : List TxnWord) :
    (s.setPending ws).cfgChannel = s.cfgChannel := by rfl
@[simp] theorem State.setPending_pending (ws : List TxnWord) : (s.setPending ws).pending = ws := by rfl
@[simp] theorem State.setPending_counterResets (ws : List TxnWord) :
    (s.setPending ws).counterResets = s.counterResets := by rfl
@[simp] theorem State.setPending_freeCount (ws : List TxnWord) :
    (s.setPending ws).freeCount = s.freeCount := by rfl

/-! ## applyReset -/

@[simp] theorem State.applyReset_prevValid : s.applyReset.prevValid = false := by rfl
@[simp] theorem State.applyReset_prevLevel : s.applyReset.prevLevel = Config.unspecifiedLevel s.freeCount := by rfl
@[simp] theorem State.applyReset_fsm : s.applyReset.fsm = .pulseIdle := by rfl
@[simp] theorem State.applyReset_plen : s.applyReset.plen = 0 := by rfl
@[simp] theorem State.applyReset_pbuf : s.applyReset.pbuf =
      Vector.ofFn (fun k : Fin Config.payloadCap => Config.unspecifiedCell s.freeCount k.val) := by rfl
@[simp] theorem State.applyReset_resValid : s.applyReset.resValid = false := by rfl
@[simp] theorem State.applyReset_resOverrun : s.applyReset.resOverrun = false := by rfl
@[simp] theorem State.applyReset_res : s.applyReset.res = ResultRecord.zero := by rfl
@[simp] theorem State.applyReset_refused : s.applyReset.refused = s.refused := by rfl
@[simp] theorem State.applyReset_cfgChannel : s.applyReset.cfgChannel = s.cfgChannel := by rfl
@[simp] theorem State.applyReset_pending : s.applyReset.pending = s.pending := by rfl
@[simp] theorem State.applyReset_counterResets : s.applyReset.counterResets = s.counterResets := by rfl
@[simp] theorem State.applyReset_freeCount : s.applyReset.freeCount = s.freeCount + 1 := by rfl

end Sys2Proof.Machine
end

