-- ==== Sys2Proof/Laws/Ops.lean ====
section
/-!
SUPPORT. What the shared operations do to the candidate payload, and the dump.
-/

namespace Sys2Proof.Machine

variable (s : State)

/-! ## Operations that leave the payload as it is -/

@[simp] theorem State.setFsm_payload (f : FrameState) : (s.setFsm f).payload = s.payload := by rfl
@[simp] theorem State.setPrevLevel_payload (l : Level) : (s.setPrevLevel l).payload = s.payload := by rfl
@[simp] theorem State.latchLevel_payload (l : Level) : (s.latchLevel l).payload = s.payload := by rfl
@[simp] theorem State.strobeCounter_payload : s.strobeCounter.payload = s.payload := by rfl
@[simp] theorem State.clearFlags_payload : s.clearFlags.payload = s.payload := by rfl
@[simp] theorem State.writeResult_payload (r : DecodeResult) : (s.writeResult r).payload = s.payload := by rfl
@[simp] theorem State.markRefused_payload : s.markRefused.payload = s.payload := by rfl
@[simp] theorem State.setPending_payload (ws : List TxnWord) : (s.setPending ws).payload = s.payload := by rfl

/-! ## The payload -/

theorem State.storedLen_le : s.storedLen ≤ 36 := Nat.min_le_right _ _

@[simp] theorem State.payload_length : s.payload.length = s.storedLen := by
  have := s.storedLen_le
  simp [State.payload, this]

@[simp] theorem State.clearPayload_payload : s.clearPayload.payload = [] := by
  simp [State.payload, State.storedLen]

@[simp] theorem State.applyReset_payload : s.applyReset.payload = [] := by
  simp [State.payload, State.storedLen]

/-- `S.plen` is below `2^LEN_BITS`, with the width as a numeral. -/
theorem State.plen_lt : s.plen.toNat < 2 ^ 16 := s.plen.isLt

/-- The stored length after an append: one more, up to the capacity. -/
theorem State.appendDuration_plen_toNat (d : Duration) :
    (s.appendDuration d).plen.toNat = min (s.plen.toNat + 1) 65535 := by
  simp only [appendDuration_plen, BitVec.toNat_ofNat, Config.lenMax, Config.lenBits]
  omega

/-- Everything an append does to the payload: below the capacity the duration is added at the end, and from there on
nothing is stored. -/
theorem State.appendDuration_payload (d : Duration) :
    (s.appendDuration d).payload = if s.plen.toNat < 36 then s.payload ++ [d] else s.payload := by
  have hlen := s.appendDuration_plen_toNat d
  by_cases h : s.plen.toNat < 36
  · have h1 : (s.appendDuration d).storedLen = s.plen.toNat + 1 := by
      simp only [State.storedLen, hlen, Config.payloadCap]; omega
    have h2 : s.storedLen = s.plen.toNat := by simp only [State.storedLen, Config.payloadCap]; omega
    simp only [State.payload, h1, h2, appendDuration_pbuf, if_pos h, Config.payloadCap, Vector.toList_setIfInBounds]
    rw [List.take_add_one, List.take_set_of_le (Nat.le_refl _)]
    simp [h]
  · have h1 : (s.appendDuration d).storedLen = s.storedLen := by
      simp only [State.storedLen, hlen, Config.payloadCap]; omega
    simp [State.payload, h1, h]

/-- One cell after an append: cell `S.plen` holds the duration, where there is such a cell, and no other changes. -/
theorem State.appendDuration_getElem (d : Duration) (k : Fin 36) :
    (s.appendDuration d).pbuf[k] = if k.val = s.plen.toNat then d else s.pbuf[k] := by
  have hk := k.isLt
  have hb : (s.appendDuration d).pbuf =
      if s.plen.toNat < 36 then s.pbuf.setIfInBounds s.plen.toNat d else s.pbuf := s.appendDuration_pbuf d
  by_cases h : s.plen.toNat < 36
  · rw [if_pos h] at hb
    simp only [Fin.getElem_fin, hb, Vector.getElem_setIfInBounds, eq_comm]
  · rw [if_neg h] at hb
    rw [if_neg (by omega)]
    simp only [Fin.getElem_fin, hb]

/-! ## The dump -/

theorem State.dumpCells_getElem (k : Fin 36) : s.dumpCells[k] = s.payload.getD k.val 0 := by
  simp [State.dumpCells]

/-- A cell of the payload is the cell of `PBUF` at its position. -/
theorem State.payload_getD (k : Fin 36) :
    s.payload.getD k.val 0 = if k.val < s.storedLen then s.pbuf[k] else 0 := by
  simp only [State.payload, List.getD_eq_getElem?_getD, List.getElem?_take]
  split <;> simp

end Sys2Proof.Machine
end

