-- ==== Sys2Proof/Laws/Automaton.lean ====
section
/-!
SUPPORT. What delivering an event does, state by state, and what a poll does.
-/

namespace Sys2Proof.Machine

variable (d : Duration) (l : Level) (s : State)

/-- An event in `PulseIdle` (R66, R67). -/
theorem deliverEvent_pulseIdle (h : s.fsm = .pulseIdle) :
    deliverEvent d l s = if l = .low ∧ syncHit params d = true then s.setFsm .preamble else s := by
  have hl : l.flip = .high ↔ l = .low := by cases l <;> simp [Level.flip]
  simp only [deliverEvent, h, selectArm_pulseIdle, hl]
  split <;> simp_all [performArm, armIdleSync, armIdleStay]

/-- An event in `Preamble` (R68, R69). -/
theorem deliverEvent_preamble (h : s.fsm = .preamble) :
    deliverEvent d l s = if preHit params d = true then s.setFsm .pulse else s.setFsm .pulseIdle := by
  simp only [deliverEvent, h, selectArm_preamble]
  split <;> simp_all [performArm, armPreOk, armPreAbandon]

/-- An event in `Pulse` (R70, R71). -/
theorem deliverEvent_pulse (h : s.fsm = .pulse) :
    deliverEvent d l s =
      if syncHit params d = true then s.setFsm .data else s.clearPayload.setFsm .pulseIdle := by
  simp only [deliverEvent, h, selectArm_pulse]
  split <;> simp_all [performArm, armPulseOk, armPulseFail]

/-- An event in `Data` (R72 to R75). -/
theorem deliverEvent_data (h : s.fsm = .data) :
    deliverEvent d l s =
      if eofHit params d = true then (if s.plen ≠ 0 then decodeOp s else s).clearPayload.setFsm .pulseIdle
      else if bitHit params d = true then (s.appendDuration d).setFsm .pulse
      else s.clearPayload.setFsm .pulseIdle := by
  simp only [deliverEvent, h, selectArm_data]
  split
  · simp_all [performArm, armDataEof]
  · split <;> simp_all [performArm, armDataBit, armDataFail]

/-- Delivering an event, inverted: the seven things it can do. -/
theorem deliverEvent_cases :
    deliverEvent d l s = s ∨
      (s.fsm = .pulseIdle ∧ l = .low ∧ syncHit params d = true ∧ deliverEvent d l s = s.setFsm .preamble) ∨
      (s.fsm = .preamble ∧ ∃ f, (f = .pulse ∨ f = .pulseIdle) ∧ deliverEvent d l s = s.setFsm f) ∨
      (s.fsm = .pulse ∧ syncHit params d = true ∧ deliverEvent d l s = s.setFsm .data) ∨
      ((s.fsm = .pulse ∨ s.fsm = .data) ∧ deliverEvent d l s = s.clearPayload.setFsm .pulseIdle) ∨
      (s.fsm = .data ∧ eofHit params d = true ∧ s.plen ≠ 0 ∧
        deliverEvent d l s = (decodeOp s).clearPayload.setFsm .pulseIdle) ∨
      (s.fsm = .data ∧ bitHit params d = true ∧ deliverEvent d l s = (s.appendDuration d).setFsm .pulse) := by
  cases h : s.fsm
  · rw [deliverEvent_pulseIdle d l s h]; split <;> simp_all
  · rw [deliverEvent_preamble d l s h]; split <;> simp_all
  · rw [deliverEvent_pulse d l s h]; split <;> simp_all
  · rw [deliverEvent_data d l s h]
    split
    · split <;> simp_all
    · split <;> simp_all

/-! ## What an event never touches -/

theorem deliverEvent_frame :
    (deliverEvent d l s).prevValid = s.prevValid ∧ (deliverEvent d l s).prevLevel = s.prevLevel ∧
      (deliverEvent d l s).refused = s.refused ∧ (deliverEvent d l s).cfgChannel = s.cfgChannel ∧
      (deliverEvent d l s).pending = s.pending ∧ (deliverEvent d l s).counterResets = s.counterResets ∧
      (deliverEvent d l s).freeCount = s.freeCount := by
  rcases deliverEvent_cases d l s with h | ⟨-, -, -, h⟩ | ⟨-, f, -, h⟩ | ⟨-, -, h⟩ | ⟨-, h⟩ | ⟨-, -, -, h⟩ | ⟨-, -, h⟩ <;>
    simp [h, decodeOp]

/-! ## POLL -/

/-- A poll, inverted: the first latches, an unchanged level does nothing, a changed level delivers. -/
theorem pollOp_cases (n : Duration) :
    (s.prevValid = false ∧ pollOp l n s = (s.latchLevel l).strobeCounter) ∨
      (s.prevValid = true ∧ l = s.prevLevel ∧ pollOp l n s = s) ∨
      (s.prevValid = true ∧ l ≠ s.prevLevel ∧ pollOp l n s = deliverEvent n l (s.strobeCounter.setPrevLevel l)) := by
  unfold pollOp
  cases h : s.prevValid <;> simp
  by_cases hl : l = s.prevLevel <;> simp [hl]

end Sys2Proof.Machine
end

