-- ==== Sys2Proof/Laws/Classifier.lean ====
section
/-!
SUPPORT. What each comparator of the machine's classifier says in numbers, and the bit slicer over it.
-/

namespace Sys2Proof.Machine

/-! ## The machine's sizes as numerals -/

@[simp] theorem params_frameBits : params.frameBits = 36 := rfl
@[simp] theorem params_tick : params.tick = 1 := rfl
@[simp] theorem params_counterBits : params.counterBits = Config.counterBits := rfl

/-- A duration is below `2^DUR_BITS`, with the width as a numeral. -/
theorem duration_lt (d : Duration) : d.toNat < 2 ^ 32 := d.isLt

/-! ## The windows -/

/-- A window test is a closed interval of unsigned values. -/
theorem inW_iff (d lo hi : Duration) : inW d lo hi = true ↔ lo.toNat ≤ d.toNat ∧ d.toNat ≤ hi.toNat := by
  simp [inW, BitVec.le_def]

theorem syncHit_iff (d : Duration) : syncHit params d = true ↔ 300 ≤ d.toNat ∧ d.toNat ≤ 600 := inW_iff _ _ _
theorem preHit_iff (d : Duration) : preHit params d = true ↔ 2000 ≤ d.toNat ∧ d.toNat ≤ 8000 := inW_iff _ _ _
theorem eofHit_iff (d : Duration) : eofHit params d = true ↔ 3000 ≤ d.toNat ∧ d.toNat ≤ 8000 := inW_iff _ _ _
theorem oneHit_iff (d : Duration) : oneHit params d = true ↔ 1650 ≤ d.toNat ∧ d.toNat ≤ 2150 := inW_iff _ _ _
theorem zeroHit_iff (d : Duration) : zeroHit params d = true ↔ 800 ≤ d.toNat ∧ d.toNat ≤ 1100 := inW_iff _ _ _
theorem bitHit_iff (d : Duration) : bitHit params d = true ↔ 800 ≤ d.toNat ∧ d.toNat ≤ 2150 := inW_iff _ _ _

/-- A duration is out of range for the slicer exactly when no bit window takes it, and it is then the value carried. -/
theorem slice_outOfRange_iff (c : Params) (d e : Duration) :
    slice c d = .outOfRange e ↔ e = d ∧ oneHit c d = false ∧ zeroHit c d = false := by
  unfold slice
  cases oneHit c d <;> cases zeroHit c d <;> simp [eq_comm]

end Sys2Proof.Machine
end

