-- ==== Sys2Proof/Laws/Extractor.lean ====
section
/-!
SUPPORT. What field extraction and `DecodeFn` can answer.
-/

namespace Sys2Proof.Machine

/-! ## Bits and fields -/

/-- The value that bits shifted in after `acc` give, when no duration is out of range: `OneHit` is a 1. -/
def shiftBits (c : Params) (ds : List Duration) (acc : Nat) : Nat :=
  ds.foldl (fun a d => a * 2 + (oneHit c d).toNat) acc

/-- A duration in a bit window, so that the slicer gives a bit (43_bit_slicer.md R80). -/
def IsBit (c : Params) (d : Duration) : Prop := oneHit c d = true ∨ zeroHit c d = true

/-- The error `e` is the first of the durations `ds` that is in no bit window. -/
def FirstBad (c : Params) (ds : List Duration) (e : Duration) : Prop :=
  ∃ pre post, ds = pre ++ e :: post ∧ (∀ d ∈ pre, IsBit c d) ∧ oneHit c e = false ∧ zeroHit c e = false

/-- One extraction, inverted: all durations are in a bit window and the value is their bits, or the error is the first
duration that is in none. -/
theorem extractBits_cases (c : Params) (ds : List Duration) (acc : Nat) :
    ((∀ d ∈ ds, IsBit c d) ∧ extractBits c ds acc = .ok (shiftBits c ds acc)) ∨
      ∃ e, FirstBad c ds e ∧ extractBits c ds acc = .error e := by
  induction ds generalizing acc with
  | nil => exact .inl ⟨by simp, rfl⟩
  | cons d ds ih =>
    cases h1 : oneHit c d
    · cases h0 : zeroHit c d
      · exact .inr ⟨d, ⟨[], ds, rfl, by simp, h1, h0⟩, by simp [extractBits, slice, h1, h0]⟩
      · have hd : IsBit c d := .inr h0
        rcases ih (acc * 2) with ⟨ha, hv⟩ | ⟨e, ⟨pre, post, rfl, hp, he1, he0⟩, hv⟩
        · exact .inl ⟨by simpa [hd] using ha, by simp [extractBits, slice, h1, h0, hv, shiftBits]⟩
        · exact .inr ⟨e, ⟨d :: pre, post, rfl, by simpa [hd] using hp, he1, he0⟩, by simp [extractBits, slice, h1, h0, hv]⟩
    · have hd : IsBit c d := .inl h1
      rcases ih (acc * 2 + 1) with ⟨ha, hv⟩ | ⟨e, ⟨pre, post, rfl, hp, he1, he0⟩, hv⟩
      · exact .inl ⟨by simpa [hd] using ha, by simp [extractBits, slice, h1, hv, shiftBits]⟩
      · exact .inr ⟨e, ⟨d :: pre, post, rfl, by simpa [hd] using hp, he1, he0⟩, by simp [extractBits, slice, h1, hv]⟩

/-- `acc` never exceeds `2^w - 1` (43_bit_slicer.md R81). -/
theorem shiftBits_lt (c : Params) (ds : List Duration) (acc : Nat) :
    shiftBits c ds acc < (acc + 1) * 2 ^ ds.length := by
  induction ds generalizing acc with
  | nil => simp [shiftBits]
  | cons d ds ih =>
    have h := ih (acc * 2 + (oneHit c d).toNat)
    have hb : (oneHit c d).toNat ≤ 1 := by cases oneHit c d <;> decide
    have : (acc * 2 + (oneHit c d).toNat + 1) * 2 ^ ds.length ≤ (acc + 1) * 2 ^ (ds.length + 1) := by
      rw [Nat.pow_succ, Nat.mul_comm (2 ^ ds.length) 2, ← Nat.mul_assoc]
      exact Nat.mul_le_mul_right _ (by omega)
    exact Nat.lt_of_lt_of_le h this

@[simp] theorem fieldCells_length (cells : List Duration) (f : Field) : (fieldCells cells f).length = f.width := by
  simp [fieldCells]

/-- The cells of the five fields, one after another, are the cells at the scanned positions. -/
theorem flatMap_fieldCells (cells : List Duration) :
    fieldTable.flatMap (fieldCells cells) = scannedPositions.map (fun p => cells.getD p 0) := by
  simp only [scannedPositions, List.map_flatMap, List.map_map]
  rfl

/-! ## DecodeFn -/

/-- `DecodeFn`, inverted: the length error, the range error, the channel error or the reading. -/
theorem decodeFn_cases (c : Params) (len : Nat) (cells : List Duration) (cfg : BitVec 8) :
    (len ≠ c.frameBits ∧ decodeFn c len cells cfg = .errLength len) ∨
      (∃ d, len = c.frameBits ∧ extractFields c cells = .error d ∧ decodeFn c len cells cfg = .errRange d) ∨
      (∃ raw, len = c.frameBits ∧ extractFields c cells = .ok raw ∧ (interpret raw).channel.toNat ≠ cfg.toNat ∧
        decodeFn c len cells cfg = .errChannel (interpret raw).channel) ∨
      ∃ raw, len = c.frameBits ∧ extractFields c cells = .ok raw ∧ (interpret raw).channel.toNat = cfg.toNat ∧
        decodeFn c len cells cfg = .reading (interpret raw) := by
  unfold decodeFn
  by_cases hl : len ≠ c.frameBits
  · exact .inl ⟨hl, by simp [hl]⟩
  · have hl' : len = c.frameBits := by omega
    cases hx : extractFields c cells with
    | error d => exact .inr (.inl ⟨d, hl', rfl, by simp [hl']⟩)
    | ok raw =>
      by_cases hc : (interpret raw).channel.toNat = cfg.toNat
      · exact .inr (.inr (.inr ⟨raw, hl', rfl, hc, by simp [hl', filterChannel, hc]⟩))
      · exact .inr (.inr (.inl ⟨raw, hl', rfl, hc, by simp [hl', filterChannel, hc]⟩))

/-- `DecodeFn` of the machine's parameters, inverted: a frame has 36 bits. -/
theorem decodeFn_params_cases (len : Nat) (cells : List Duration) (cfg : BitVec 8) :
    (len ≠ 36 ∧ decodeFn params len cells cfg = .errLength len) ∨
      (∃ d, len = 36 ∧ extractFields params cells = .error d ∧ decodeFn params len cells cfg = .errRange d) ∨
      (∃ raw, len = 36 ∧ extractFields params cells = .ok raw ∧ (interpret raw).channel.toNat ≠ cfg.toNat ∧
        decodeFn params len cells cfg = .errChannel (interpret raw).channel) ∨
      ∃ raw, len = 36 ∧ extractFields params cells = .ok raw ∧ (interpret raw).channel.toNat = cfg.toNat ∧
        decodeFn params len cells cfg = .reading (interpret raw) := decodeFn_cases params len cells cfg

/-- The raw fields of a frame whose scanned durations are all bits. -/
def rawOf (c : Params) (cells : List Duration) : RawFields where
  id := BitVec.ofNat 8 (shiftBits c (fieldCells cells idField) 0)
  battery := BitVec.ofNat 1 (shiftBits c (fieldCells cells batteryField) 0)
  channel := BitVec.ofNat 2 (shiftBits c (fieldCells cells channelField) 0)
  temp := BitVec.ofNat 12 (shiftBits c (fieldCells cells tempField) 0)
  humidity := BitVec.ofNat 8 (shiftBits c (fieldCells cells humidityField) 0)

/-- A first bad duration stays the first bad one when bits are put before and anything behind. -/
theorem FirstBad.extend {c : Params} {ds : List Duration} {e : Duration} (h : FirstBad c ds e) (before after : List Duration)
    (hb : ∀ d ∈ before, IsBit c d) : FirstBad c (before ++ ds ++ after) e := by
  obtain ⟨pre, post, rfl, hp, h1, h0⟩ := h
  refine ⟨before ++ pre, post ++ after, by simp, ?_, h1, h0⟩
  intro d hd
  rcases List.mem_append.1 hd with hd | hd
  · exact hb d hd
  · exact hp d hd

/-- Extraction of the five fields, inverted: all scanned durations are bits and the fields are their values, or the error
is the first scanned duration that is no bit. -/
theorem extractFields_cases (c : Params) (cells : List Duration) :
    ((∀ p ∈ scannedPositions, IsBit c (cells.getD p 0)) ∧ extractFields c cells = .ok (rawOf c cells)) ∨
      ∃ e, FirstBad c (scannedPositions.map (fun p => cells.getD p 0)) e ∧ extractFields c cells = .error e := by
  have hall : scannedPositions.map (fun p => cells.getD p 0) =
      fieldCells cells idField ++ (fieldCells cells batteryField ++ (fieldCells cells channelField ++
        (fieldCells cells tempField ++ fieldCells cells humidityField))) := by
    rw [← flatMap_fieldCells]; simp [fieldTable]
  have hmem : (∀ p ∈ scannedPositions, IsBit c (cells.getD p 0)) ↔
      ∀ d ∈ scannedPositions.map (fun p => cells.getD p 0), IsBit c d := by simp
  rw [hmem, hall]
  simp only [extractFields, extractField, bind, Except.bind, pure, Except.pure]
  rcases extractBits_cases c (fieldCells cells idField) 0 with ⟨b1, v1⟩ | ⟨e, h, v⟩
  · rcases extractBits_cases c (fieldCells cells batteryField) 0 with ⟨b2, v2⟩ | ⟨e, h, v⟩
    · rcases extractBits_cases c (fieldCells cells channelField) 0 with ⟨b3, v3⟩ | ⟨e, h, v⟩
      · rcases extractBits_cases c (fieldCells cells tempField) 0 with ⟨b4, v4⟩ | ⟨e, h, v⟩
        · rcases extractBits_cases c (fieldCells cells humidityField) 0 with ⟨b5, v5⟩ | ⟨e, h, v⟩
          · refine .inl ⟨?_, by simp only [v1, v2, v3, v4, v5]; rfl⟩
            simp only [List.forall_mem_append]
            exact ⟨b1, b2, b3, b4, b5⟩
          · refine .inr ⟨e, ?_, by simp only [v1, v2, v3, v4, v]⟩
            have := h.extend (fieldCells cells idField ++ (fieldCells cells batteryField ++ (fieldCells cells channelField ++
              fieldCells cells tempField))) [] (by simp only [List.forall_mem_append]; exact ⟨b1, b2, b3, b4⟩)
            simpa using this
        · refine .inr ⟨e, ?_, by simp only [v1, v2, v3, v]⟩
          have := h.extend (fieldCells cells idField ++ (fieldCells cells batteryField ++ fieldCells cells channelField))
            (fieldCells cells humidityField) (by simp only [List.forall_mem_append]; exact ⟨b1, b2, b3⟩)
          simpa using this
      · refine .inr ⟨e, ?_, by simp only [v1, v2, v]⟩
        have := h.extend (fieldCells cells idField ++ fieldCells cells batteryField)
          (fieldCells cells tempField ++ fieldCells cells humidityField)
          (by simp only [List.forall_mem_append]; exact ⟨b1, b2⟩)
        simpa using this
    · refine .inr ⟨e, ?_, by simp only [v1, v]⟩
      have := h.extend (fieldCells cells idField) (fieldCells cells channelField ++ (fieldCells cells tempField ++
        fieldCells cells humidityField)) b1
      simpa using this
  · refine .inr ⟨e, ?_, by simp only [v]⟩
    have := h.extend [] (fieldCells cells batteryField ++ (fieldCells cells channelField ++ (fieldCells cells tempField ++
      fieldCells cells humidityField))) (by simp)
    simpa using this

/-! ## Interpretation -/

@[simp] theorem interpretChannel_toNat (raw : BitVec 2) : (interpretChannel raw).toNat = raw.toNat + 1 := by
  revert raw; decide

theorem interpretTemp_range (raw : BitVec 12) : -2047 ≤ interpretTemp raw ∧ interpretTemp raw ≤ 2048 := by
  have := raw.isLt
  unfold interpretTemp
  split <;> omega

end Sys2Proof.Machine
end

