-- ==== Sys2Proof/Laws/PerInstr.lean ====
section
/-!
SUPPORT. One statement for all instructions: the word a well-formed instruction is encoded in meets the match and mask
of its row of spec/opcode_table.json.
-/

namespace Sys2Proof

/-- A row of spec/opcode_table.json: a transaction row and a selector row have a match and a mask, the internal row has
neither. -/
inductive TableRow where
  | txn (pattern mask : TxnWord)
  | sel (pattern mask : Selector)
  | internal
  deriving DecidableEq, Repr

/-- The row of each constructor, as spec/opcode_table.json gives it. -/
def tableRow : Instr → TableRow
  | .reset => .txn 0x000000000 0x7FFFFFFFF
  | .poll _ _ => .txn 0x200000000 0x600000000
  | .event _ _ => .txn 0x400000000 0x600000000
  | .ack => .txn 0x600000000 0x7FFFFFFFF
  | .idleSync _ _ => .sel 0x18 0x78
  | .idleStay _ _ => .sel 0x00 0x60
  | .preOk _ => .sel 0x24 0x64
  | .preAbandon _ => .sel 0x20 0x60
  | .pulseOk _ => .sel 0x48 0x68
  | .pulseFail _ => .sel 0x40 0x60
  | .dataEof _ => .sel 0x62 0x62
  | .dataBit _ => .sel 0x61 0x61
  | .dataFail _ => .sel 0x60 0x60
  | .decode => .internal

/-- A word meets a row. -/
def rowMatches : InstrWord → TableRow → Prop
  | .txn w, .txn pattern mask => w &&& mask = pattern
  | .sel v _, .sel pattern mask => v &&& mask = pattern
  | .internal, .internal => True
  | _, _ => False

open Sys2Proof.Machine

namespace Laws.EncodedRow

/-- The word of a well-formed instruction meets its row of the table. -/
def Statement (i : Instr) : Prop := i.wellFormed = true → rowMatches (encode i) (tableRow i)

theorem txnWord_and (k : BitVec 2) (l : BitVec 1) (v : Duration) :
    txnWord k l v &&& 0x600000000 = txnWord k 0 0 := by
  have h : (0x600000000 : TxnWord) = txnWord 3 0 0 := by decide
  have e1 : k &&& 3#2 = k := by revert k; decide
  have e2 : l &&& 0#1 = 0#1 := by revert l; decide
  have e3 : v &&& 0#32 = 0#32 := by simp
  rw [h]
  show (k ++ l ++ v) &&& ((3#2 ++ 0#1) ++ 0#32) = k ++ 0#1 ++ 0#32
  rw [BitVec.and_append, BitVec.and_append, e1, e2, e3]

theorem reset : Statement .reset := fun _ => by show _ &&& _ = _; decide
theorem poll (l : Level) (n : Duration) : Statement (.poll l n) := fun _ =>
  (txnWord_and _ _ _).trans (by decide)
theorem event (d : Duration) (l : Level) : Statement (.event d l) := fun _ =>
  (txnWord_and _ _ _).trans (by decide)
theorem ack : Statement .ack := fun _ => by show _ &&& _ = _; decide

theorem idleSync (d : Duration) (p : Level) : Statement (.idleSync d p) := by
  intro hw
  simp only [Instr.wellFormed, Bool.and_eq_true, decide_eq_true_eq] at hw
  obtain ⟨rfl, hs⟩ := hw
  show selector params .pulseIdle .high d &&& 0x78 = 0x18
  unfold selector
  rw [hs]
  cases preHit params d <;> cases eofHit params d <;> cases bitHit params d <;> decide

theorem idleStay (d : Duration) (p : Level) : Statement (.idleStay d p) := by
  intro _
  show selector params .pulseIdle p d &&& 0x60 = 0x00
  unfold selector
  cases p <;> cases syncHit params d <;> cases preHit params d <;> cases eofHit params d <;> cases bitHit params d <;>
    decide

theorem preOk (d : Duration) : Statement (.preOk d) := by
  intro (hw : preHit params d = true)
  show selector params .preamble .low d &&& 0x64 = 0x24
  unfold selector
  rw [hw]
  cases syncHit params d <;> cases eofHit params d <;> cases bitHit params d <;> decide

theorem preAbandon (d : Duration) : Statement (.preAbandon d) := by
  intro _
  show selector params .preamble .low d &&& 0x60 = 0x20
  unfold selector
  cases syncHit params d <;> cases preHit params d <;> cases eofHit params d <;> cases bitHit params d <;> decide

theorem pulseOk (d : Duration) : Statement (.pulseOk d) := by
  intro (hw : syncHit params d = true)
  show selector params .pulse .low d &&& 0x68 = 0x48
  unfold selector
  rw [hw]
  cases preHit params d <;> cases eofHit params d <;> cases bitHit params d <;> decide

theorem pulseFail (d : Duration) : Statement (.pulseFail d) := by
  intro _
  show selector params .pulse .low d &&& 0x60 = 0x40
  unfold selector
  cases syncHit params d <;> cases preHit params d <;> cases eofHit params d <;> cases bitHit params d <;> decide

theorem dataEof (d : Duration) : Statement (.dataEof d) := by
  intro (hw : eofHit params d = true)
  show selector params .data .low d &&& 0x62 = 0x62
  unfold selector
  rw [hw]
  cases syncHit params d <;> cases preHit params d <;> cases bitHit params d <;> decide

theorem dataBit (d : Duration) : Statement (.dataBit d) := by
  intro hw
  simp only [Instr.wellFormed, Bool.and_eq_true] at hw
  show selector params .data .low d &&& 0x61 = 0x61
  unfold selector
  rw [hw.2]
  cases syncHit params d <;> cases preHit params d <;> cases eofHit params d <;> decide

theorem dataFail (d : Duration) : Statement (.dataFail d) := by
  intro _
  show selector params .data .low d &&& 0x60 = 0x60
  unfold selector
  cases syncHit params d <;> cases preHit params d <;> cases eofHit params d <;> cases bitHit params d <;> decide

theorem decode : Statement .decode := fun _ => trivial

end Laws.EncodedRow

end Sys2Proof
end

