-- ==== Sys2Proof/Laws/Step.lean ====
section
/-!
SUPPORT. What one step can do.
-/

namespace Sys2Proof.Machine

/-- A transaction decoded from a word is one of the four. -/
theorem decodeTxn_cases (w : TxnWord) :
    decodeTxn w = .ok .reset ∨ (∃ l n, decodeTxn w = .ok (.poll l n)) ∨ (∃ d l, decodeTxn w = .ok (.event d l)) ∨
      decodeTxn w = .ok .ack ∨ decodeTxn w = .error .reservedBits := by
  unfold decodeTxn
  split
  · split <;> simp
  · split
    · exact .inr (.inl ⟨_, _, rfl⟩)
    · split
      · exact .inr (.inr (.inl ⟨_, _, rfl⟩))
      · split <;> simp

/-- One step, inverted: the host yields, a word is refused, or one of the four transactions runs. -/
theorem step_cases (s : State) :
    (s.pending = [] ∧ step s = .next s) ∨
      ∃ w ws, s.pending = w :: ws ∧
        ((decodeTxn w = .error .reservedBits ∧ step s = .next (s.setPending ws).markRefused) ∨
          (decodeTxn w = .ok .reset ∧ step s = .next (s.setPending ws).applyReset) ∨
          (∃ l n, decodeTxn w = .ok (.poll l n) ∧ step s = .next (pollOp l n (s.setPending ws))) ∨
          (∃ d l, decodeTxn w = .ok (.event d l) ∧ step s = .next (deliverEvent d l (s.setPending ws))) ∨
          (decodeTxn w = .ok .ack ∧ step s = .next (s.setPending ws).clearFlags)) := by
  cases hp : s.pending with
  | nil => exact .inl ⟨rfl, by simp [step, fetch, hp]⟩
  | cons w ws =>
    refine .inr ⟨w, ws, rfl, ?_⟩
    rcases decodeTxn_cases w with h | ⟨l, n, h⟩ | ⟨d, l, h⟩ | h | h
    · exact .inr (.inl ⟨h, by simp [step, fetch, hp, h, exec, execReset]⟩)
    · exact .inr (.inr (.inl ⟨l, n, h, by simp [step, fetch, hp, h, exec, execPoll]⟩))
    · exact .inr (.inr (.inr (.inl ⟨d, l, h, by simp [step, fetch, hp, h, exec, execEvent]⟩)))
    · exact .inr (.inr (.inr (.inr ⟨h, by simp [step, fetch, hp, h, exec, execAck]⟩)))
    · exact .inl ⟨h, by simp [step, fetch, hp, h]⟩

end Sys2Proof.Machine
end

