-- ==== Sys2Proof/Tests/Slice0.lean ====
section
/-!
SUPPORT. The model's own tests. Expected results are those of spec/95_test_vectors.md and of the rules' corner cases and
worked examples. The second half holds a witness for each statement that has hypotheses.
-/

namespace Sys2Proof.Tests

open Sys2Proof.Machine

/-! ## Small states -/

/-- The reset state in a frame state, with the first polls done. -/
def stateIn (f : FrameState) : State :=
  { State.reset with fsm := f, prevValid := true, prevLevel := .high, cfgChannel := 1 }

/-- The reference payload E1 (95 section 0). -/
def e1 : List Duration :=
  [1000, 1000, 1000, 1000, 1000, 1900, 1000, 1900, 1900, 1000, 1000, 1000] ++
    [1000, 1000, 1000, 1000, 1900, 1900, 1000, 1900, 1000, 1900, 1900, 1900] ++
    [1000, 1000, 1000, 1000, 1000, 1000, 1900, 1000, 1900, 1900, 1900, 1900]

/-- `Data` with E1 stored. -/
def stateE1 : State :=
  { stateIn .data with plen := 36, pbuf := Vector.ofFn (fun k : Fin 36 => e1.getD k.val 0) }

/-- A property of the next state; false of a fault or a refusal. -/
def nextIs (o : Host.Outcome State Fault Refusal) (q : State → Bool) : Bool :=
  match o with
  | .next t => q t
  | .fault _ => false
  | .refused _ => false

/-! ## Well-formedness: an ill-formed term for each check -/

theorem test_wf_idleSync_level : (Instr.idleSync 450 .low).wellFormed = false := by decide
theorem test_wf_idleSync_window : (Instr.idleSync 299 .high).wellFormed = false := by decide
theorem test_wf_idleStay : (Instr.idleStay 300 .high).wellFormed = false := by decide
theorem test_wf_preOk : (Instr.preOk 1999).wellFormed = false := by decide
theorem test_wf_preAbandon : (Instr.preAbandon 2000).wellFormed = false := by decide
theorem test_wf_pulseOk : (Instr.pulseOk 601).wellFormed = false := by decide
theorem test_wf_pulseFail : (Instr.pulseFail 600).wellFormed = false := by decide
theorem test_wf_dataEof : (Instr.dataEof 2999).wellFormed = false := by decide
theorem test_wf_dataBit : (Instr.dataBit 2151).wellFormed = false := by decide
theorem test_wf_dataFail_bit : (Instr.dataFail 800).wellFormed = false := by decide
theorem test_wf_dataFail_eof : (Instr.dataFail 8000).wellFormed = false := by decide

/-! ## Decoding: words written out from the encodings of 30_encoding.md -/

/-- R43: K = 00, everything else 0. -/
theorem test_decode_reset : decodeTxn 0b00_0_00000000000000000000000000000000#35 = .ok .reset := by decide
/-- R43: K = 01, L = 1, V = 123 (V-S1). -/
theorem test_decode_poll : decodeTxn 0b01_1_00000000000000000000000001111011#35 = .ok (.poll .high 123) := by decide
/-- R51: K = 10, L = 0, V = 500. -/
theorem test_decode_event : decodeTxn 0b10_0_00000000000000000000000111110100#35 = .ok (.event 500 .low) := by decide
/-- R43: K = 11, everything else 0. -/
theorem test_decode_ack : decodeTxn 0b11_0_00000000000000000000000000000000#35 = .ok .ack := by decide
/-- R44: an ACK word with L = 1. -/
theorem test_decode_refused : decodeTxn 0b11_1_00000000000000000000000000000000#35 = .error .reservedBits := by decide

/-- R47, 95 section 2.3: the selectors of F1, F6, F8, F11, F14, F17, F20, F22 and F27, one for each arm. -/
theorem test_decode_arms :
    [0b0011000#7, 0b0001000#7, 0b0100101#7, 0b0100001#7, 0b1011000#7, 0b1010000#7, 0b1100110#7, 0b1100001#7,
      0b1100100#7].map selectArm =
      [.idleSync, .idleStay, .preOk, .preAbandon, .pulseOk, .pulseFail, .dataEof, .dataBit, .dataFail] := by decide

/-- 95 section 2.3: the selectors that F1, F7, F13, F25 and F31 form. -/
theorem test_selectors :
    [selector params .pulseIdle .high 450, selector params .pulseIdle .high 4000, selector params .preamble .high 4000,
      selector params .data .low 2150, selector params .data .low 500] = [0x18, 0x16, 0x36, 0x65, 0x68] := by decide

/-- The opcode table's own match values give each row's instruction. -/
theorem test_table_rows :
    [decodeTableWord 40 0x000000000, decodeTableWord 40 0x200000000, decodeTableWord 40 0x400000000,
      decodeTableWord 40 0x600000000] =
      [some .reset, some (.poll .low 0), some (.event 0 .low), some .ack] ∧
    [0x18, 0x00, 0x24, 0x20, 0x48, 0x40, 0x62, 0x61, 0x60].map (decodeTableWord 8) =
      [some (.idleSync 500 .high), some (.idleStay 0 .low), some (.preOk 2500), some (.preAbandon 0), some (.pulseOk 500),
        some (.pulseFail 0), some (.dataEof 4000), some (.dataBit 1000), some (.dataFail 0)] := by decide

/-- A word of more than 35 bits, or a selector of more than 7, spells nothing (V5). -/
theorem test_table_too_wide : decodeTableWord 40 (2 ^ 35) = none ∧ decodeTableWord 8 128 = none := by decide

/-- A DATA_BIT selector placed at reset is run by the very next step, which stores one duration (log entry 9). -/
theorem test_place_arm :
    nextIs (step (State.reset.withFetchWord 8 0x61)) (fun t => t.plen == 1 && t.fsm == .pulse && t.pending.isEmpty) = true := by
  decide

/-- DECODE placed at reset is run by the very next step, which writes a result of one duration (log entry 9). -/
theorem test_place_decode :
    nextIs (step (State.reset.withFetchWord 0 0)) (fun t => t.res.kind == .errLength && t.res.errValue == 1) = true := by
  decide

/-! ## Instructions, one step each -/

/-- R113's worked example. -/
theorem test_reset : nextIs (exec .reset { stateIn .data with plen := 20, resValid := true })
    (fun t => t.fsm == .pulseIdle && t.plen == 0 && !t.resValid && !t.prevValid) = true := by decide

/-- V-S1: the first poll latches, whatever the level. -/
theorem test_poll_first : nextIs (exec (.poll .high 123) State.reset)
    (fun t => t.prevValid && t.prevLevel == .high && t.counterResets == 1 && t.fsm == .pulseIdle) = true := by decide

/-- V-S3: a falling edge in the sync window goes to `Preamble`. -/
theorem test_poll_edge : nextIs (exec (.poll .low 450) (stateIn .pulseIdle))
    (fun t => t.prevLevel == .low && t.counterResets == 1 && t.fsm == .preamble) = true := by decide

/-- V-S6: a direct event steps the automaton and leaves the sampler alone. -/
theorem test_event : nextIs (exec (.event 450 .low) State.reset)
    (fun t => !t.prevValid && t.counterResets == 0 && t.fsm == .preamble) = true := by decide

/-- F13: `Preamble` does not look at the level. -/
theorem test_event_level : nextIs (exec (.event 4000 .low) (stateIn .preamble)) (fun t => t.fsm == .pulse) = true := by
  decide

/-- V-R4: the record is kept. -/
theorem test_ack :
    nextIs (exec .ack { stateE1 with resValid := true, resOverrun := true, res := { ResultRecord.zero with kind := .reading } })
      (fun t => !t.resValid && !t.resOverrun && t.res.kind == .reading) = true := by decide

/-- F1, and F6 for the other level. -/
theorem test_idleSync : nextIs (exec (.idleSync 300 .high) (stateIn .pulseIdle)) (fun t => t.fsm == .preamble) = true ∧
    nextIs (exec (.event 450 .high) (stateIn .pulseIdle)) (fun t => t.fsm == .pulseIdle) = true := by decide

/-- F5. -/
theorem test_idleStay : nextIs (exec (.idleStay 601 .high) (stateIn .pulseIdle)) (fun t => t.fsm == .pulseIdle) = true := by
  decide

/-- F8, the lower bound. -/
theorem test_preOk : nextIs (exec (.preOk 2000) (stateIn .preamble)) (fun t => t.fsm == .pulse) = true := by decide

/-- F12. -/
theorem test_preAbandon : nextIs (exec (.preAbandon 8001) (stateIn .preamble)) (fun t => t.fsm == .pulseIdle) = true := by
  decide

/-- F16. -/
theorem test_pulseOk : nextIs (exec (.pulseOk 600) (stateIn .pulse)) (fun t => t.fsm == .data) = true := by decide

/-- V-L6. -/
theorem test_pulseFail : nextIs (exec (.pulseFail 700) { stateIn .pulse with plen := 20 })
    (fun t => t.fsm == .pulseIdle && t.plen == 0 && !t.resValid) = true := by decide

/-- V-L1: an empty payload is dropped silently. -/
theorem test_dataEof_empty : nextIs (exec (.dataEof 4000) (stateIn .data))
    (fun t => t.fsm == .pulseIdle && !t.resValid && t.res.kind == .none) = true := by decide

/-- V-L2: E1 is decoded, then cleared. -/
theorem test_dataEof_e1 : nextIs (exec (.dataEof 4000) stateE1)
    (fun t => t.fsm == .pulseIdle && t.plen == 0 && t.resValid && t.res.kind == .reading && t.res.tempTenths == 215) = true := by
  decide

/-- R74's worked example. -/
theorem test_dataBit : nextIs (exec (.dataBit 1900) (stateIn .data))
    (fun t => t.pbuf[0] == 1900 && t.plen == 1 && t.fsm == .pulse) = true := by decide

/-- V-L4 and V-L5: nothing is stored past the capacity, and the length saturates. -/
theorem test_dataBit_full :
    nextIs (exec (.dataBit 1000) stateE1) (fun t => t.plen == 37 && t.pbuf == stateE1.pbuf) = true ∧
      nextIs (exec (.dataBit 1000) { stateE1 with plen := 65535 }) (fun t => t.plen == 65535) = true := by decide

/-- R75's worked example, and F28. -/
theorem test_dataFail : nextIs (exec (.dataFail 9000) stateE1) (fun t => t.fsm == .pulseIdle && t.plen == 0 && !t.resValid) = true ∧
    nextIs (exec (.dataFail 2151) stateE1) (fun t => t.plen == 0) = true := by decide

/-- V-R2 and V-R9: an unconsumed result is replaced, and a channel error passes out no field. -/
theorem test_decode_channel : nextIs (exec .decode { stateE1 with resValid := true, cfgChannel := 2 })
    (fun t => t.resOverrun && t.res.kind == .errChannel && t.res.errValue == 1 && t.res.id == 0 && t.res.dumpLen == 36) = true := by
  decide

/-- V-R8: 40 durations report their true length and dump the first 36. -/
theorem test_decode_long : nextIs (exec .decode { stateE1 with plen := 40 })
    (fun t => t.res.kind == .errLength && t.res.errValue == 40 && t.res.dumpLen == 36 && t.res.dump == stateE1.pbuf) = true := by
  decide

/-! ## The decoder's vectors -/

/-- V-D1 and W4. -/
theorem test_decodeFn_e1 : decodeFn params 36 e1 1 = .reading ⟨5, 1, 1, 215, 21, 5, 47⟩ := by decide
/-- V-D6: the first offending position. -/
theorem test_decodeFn_first_bad : decodeFn params 36 ((e1.set 0 1300).set 5 1200) 1 = .errRange 1300 := by decide
/-- V-D9 and W10: positions 9 and 24..27 are not read. -/
theorem test_decodeFn_unscanned :
    decodeFn params 36 ((((e1.set 9 5000).set 24 1300).set 25 1300).set 27 1300) 1 = .reading ⟨5, 1, 1, 215, 21, 5, 47⟩ := by
  decide
/-- The temperature table of 95 section 2.5, and W1. -/
theorem test_temperatures :
    [0, 2048, 2049, 4000, 4076, 4091, 4095].map (fun r => (interpretTemp r, tempIntPart (interpretTemp r), tempFracDigit (interpretTemp r))) =
      [(0, 0, 0), (2048, 204, 8), (-2047, -204, 7), (-96, -9, 6), (-20, -2, 0), (-5, 0, 5), (-1, 0, 1)] := by decide

/-! ## The step, the port and the host's side -/

/-- 95 section 2.7: a refused word sets the mark, and a RESET after it does not clear it. -/
theorem test_refused : nextIs (step { State.reset with pending := [0x000000001, 0x000000000] })
    (fun t => t.refused && t.pending == [0x000000000] && nextIs (step t) (fun u => u.refused && u.pending.isEmpty)) = true := by
  decide

/-- R54, R7: with `TICK` = 1 and a width of 13, a silence of 2^13 + 450 microseconds reads as 450, a sync pulse (R116). -/
theorem test_counter_alias : counterReading { params with counterBits := 13 } 8642 = 450 := by decide

/-- R49: a reading of id 5, channel 1, battery 1, t -20, packed by hand. -/
theorem test_res0 :
    ({ ResultRecord.zero with
        kind := .reading, id := 5, batteryOk := 1, channel := 1, tempTenths := -20, tempInt := -2, tempFrac := 0,
        humidity := 47, dumpLen := 36 } : ResultRecord).res0 =
      BitVec.ofNat 64 (36 * 2 ^ 53 + 47 * 2 ^ 46 + 0 * 2 ^ 42 + 510 * 2 ^ 33 + 8172 * 2 ^ 20 + 1 * 2 ^ 17 + 1 * 2 ^ 16 + 5 * 2 ^ 8 + 1) := by
  decide

/-- 95 section 2.8: the spellings of -20 and of -5, whose sign is lost. -/
theorem test_render_temperature : dec (-2) ++ "." ++ dec 0 = "-2.0" ∧ dec (tempIntPart (-5)) ++ "." ++ dec (tempFracDigit (-5)) = "0.5" := by
  decide

/-- R51: program text. -/
theorem test_asm : asmLine (.event 500 .low) = some "EVENT 500, L" ∧ asmLine (.poll .high 120) = some "POLL H, 120" := by decide

/-- R52: a frame of 36 bits is 76 events. -/
theorem test_frame_length : (frame (List.replicate 36 true)).length = 76 := by decide

/-! ## Witnesses: concrete states and operands that meet each statement's hypotheses -/

theorem witness_EncodedInstructionDecodesBack : (Instr.dataBit 2150).wellFormed = true ∧ (Instr.idleStay 600 .low).wellFormed = true := by decide
theorem witness_DecodedWordEncodesBack : decodeTxn 0x5FFFFFFFF = .ok (.event 4294967295 .high) := by decide
theorem witness_SelectorTakesFirstMatchingRow : armTable[6]? = some ⟨.dataEof, 0x62, 0x62⟩ ∧ (7 : Fin 9).val > 6 := by decide
theorem witness_ClassifierOverlaps : syncHit params 300 = true ∧ (2151#32).toNat ≤ 2999 ∧ 2151 ≤ (2999#32).toNat := by decide
theorem witness_ResetPutsResetValues : (0x1FFFFFFFF : TxnWord).toNat < 2 ^ 33 ∧ (0x1FFFFFFFF : TxnWord) ≠ 0 := by decide
theorem witness_LaunchStateIsStateAfterReset : (stateIn .data).refused = false := by decide
theorem witness_PollSamplesThePin : State.reset.prevValid = false ∧
    ((stateIn .pulse).prevValid = true ∧ Level.high = (stateIn .pulse).prevLevel) ∧
    ((stateIn .pulse).prevValid = true ∧ Level.low ≠ (stateIn .pulse).prevLevel) := by decide
theorem witness_EventAdvancesTheAutomaton :
    (stateIn .pulseIdle).fsm = .pulseIdle ∧ (stateIn .preamble).fsm = .preamble ∧ (stateIn .pulse).fsm = .pulse ∧
      ((stateIn .data).fsm = .data ∧ (3000 ≤ (8000#32).toNat ∧ (8000#32).toNat ≤ 8000) ∧ (stateIn .data).plen = 0) ∧
      (stateE1.fsm = .data ∧ (3000 ≤ (3000#32).toNat ∧ (3000#32).toNat ≤ 8000) ∧ stateE1.plen ≠ 0) ∧
      (stateE1.fsm = .data ∧ 800 ≤ (800#32).toNat ∧ (800#32).toNat ≤ 2150) ∧
      (stateE1.fsm = .data ∧ ¬ (3000 ≤ (2151#32).toNat ∧ (2151#32).toNat ≤ 8000) ∧
        ¬ (800 ≤ (2151#32).toNat ∧ (2151#32).toNat ≤ 2150)) := by decide
theorem witness_AckConsumesTheResult : 0x600000000 < (0x600000001 : TxnWord).toNat := by decide
theorem witness_CounterStrobedByPollOnly :
    exec (.poll .low 0) State.reset = .next ((State.reset.latchLevel .low).strobeCounter) ∧ State.reset.prevValid = false ∧
      exec (.poll .high 0) (stateIn .pulse) = .next (stateIn .pulse) ∧
      ¬ ((stateIn .pulse).prevValid = false ∨ Level.high ≠ (stateIn .pulse).prevLevel) ∧
      exec .ack State.reset = .next State.reset.clearFlags ∧ ∀ l n, Instr.ack ≠ .poll l n :=
  ⟨rfl, rfl, rfl, by decide, rfl, by intro l n h; cases h⟩
theorem witness_IdleSyncLeavesIdle :
    ((stateIn .pulseIdle).fsm = .pulseIdle ∧ Level.high = .high ∧ 300 ≤ (600#32).toNat ∧ (600#32).toNat ≤ 600) ∧
      ¬ ((stateIn .pulseIdle).fsm = .pulseIdle ∧ Level.high = .high ∧ 300 ≤ (601#32).toNat ∧ (601#32).toNat ≤ 600) := by decide
theorem witness_PreambleArmsAcceptOrAbandon :
    ((stateIn .preamble).fsm = .preamble ∧ 2000 ≤ (8000#32).toNat ∧ (8000#32).toNat ≤ 8000) ∧
      ((stateIn .preamble).fsm = .preamble ∧ ¬ (2000 ≤ (1999#32).toNat ∧ (1999#32).toNat ≤ 8000)) ∧
      (stateIn .data).fsm ≠ .preamble := by decide
theorem witness_PulseArmsAcceptOrDiscard :
    ((stateIn .pulse).fsm = .pulse ∧ 300 ≤ (300#32).toNat ∧ (300#32).toNat ≤ 600) ∧
      ((stateIn .pulse).fsm = .pulse ∧ ¬ (300 ≤ (299#32).toNat ∧ (299#32).toNat ≤ 600)) ∧ (stateIn .data).fsm ≠ .pulse := by
  decide
theorem witness_DataOutcomesInPriorityOrder : eofHit params 3000 = true ∧
    (eofHit params 2150 = false ∧ bitHit params 2150 = true) ∧ (eofHit params 2999 = false ∧ bitHit params 2999 = false) := by
  decide
theorem witness_DataEofDecodesAndClears :
    ((stateIn .data).fsm = .data ∧ 3000 ≤ (3000#32).toNat ∧ (3000#32).toNat ≤ 8000 ∧ (stateIn .data).plen = 0) ∧
      ({ stateE1 with plen := 35 }.fsm = .data ∧ 3000 ≤ (8000#32).toNat ∧ (8000#32).toNat ≤ 8000 ∧
        { stateE1 with plen := 35 }.plen ≠ 0 ∧ { stateE1 with plen := 35 }.plen ≠ 36) ∧
      ¬ (stateE1.fsm = .data ∧ 3000 ≤ (8001#32).toNat ∧ (8001#32).toNat ≤ 8000) := by decide
theorem witness_DataBitAppendsTheDuration :
    (stateE1.fsm = .data ∧ ¬ (3000 ≤ (2150#32).toNat ∧ (2150#32).toNat ≤ 8000) ∧ 800 ≤ (2150#32).toNat ∧ (2150#32).toNat ≤ 2150) ∧
      ¬ (stateE1.fsm = .data ∧ ¬ (3000 ≤ (799#32).toNat ∧ (799#32).toNat ≤ 8000) ∧ 800 ≤ (799#32).toNat ∧ (799#32).toNat ≤ 2150) := by
  decide
theorem witness_DataFailDiscardsTheFrame :
    (stateE1.fsm = .data ∧ ¬ (3000 ≤ (2999#32).toNat ∧ (2999#32).toNat ≤ 8000) ∧ ¬ (800 ≤ (2999#32).toNat ∧ (2999#32).toNat ≤ 2150)) ∧
      ¬ (stateE1.fsm = .data ∧ ¬ (3000 ≤ (800#32).toNat ∧ (800#32).toNat ≤ 8000) ∧ ¬ (800 ≤ (800#32).toNat ∧ (800#32).toNat ≤ 2150)) := by
  decide
theorem witness_IdleSyncLeavesIdle_level :
    ¬ (Level.low = .high ∧ 300 ≤ (300#32).toNat ∧ (300#32).toNat ≤ 600) ∧
      ¬ (Level.high = .high ∧ 300 ≤ (299#32).toNat ∧ (299#32).toNat ≤ 600) := by decide
theorem witness_IdleStaySkips :
    (stateIn .pulseIdle).fsm = .pulseIdle ∧ ¬ (Level.low = .high ∧ 300 ≤ (300#32).toNat ∧ (300#32).toNat ≤ 600) := by decide
theorem witness_ArmOutsideItsConditionDoesNothing :
    ¬ ((stateIn .pulse).fsm = .pulseIdle ∧ Level.high = .high ∧ 300 ≤ (500#32).toNat ∧ (500#32).toNat ≤ 600) ∧
      ¬ ((stateIn .preamble).fsm = .preamble ∧ 2000 ≤ (8001#32).toNat ∧ (8001#32).toNat ≤ 8000) ∧
      ¬ ((stateIn .preamble).fsm = .preamble ∧ ¬ (2000 ≤ (2000#32).toNat ∧ (2000#32).toNat ≤ 8000)) ∧
      ¬ ((stateIn .pulse).fsm = .pulse ∧ 300 ≤ (601#32).toNat ∧ (601#32).toNat ≤ 600) ∧
      ¬ ((stateIn .pulse).fsm = .pulse ∧ ¬ (300 ≤ (600#32).toNat ∧ (600#32).toNat ≤ 600)) ∧
      ¬ (stateE1.fsm = .data ∧ 3000 ≤ (2999#32).toNat ∧ (2999#32).toNat ≤ 8000) ∧
      ¬ (stateE1.fsm = .data ∧ ¬ (3000 ≤ (2151#32).toNat ∧ (2151#32).toNat ≤ 8000) ∧
        800 ≤ (2151#32).toNat ∧ (2151#32).toNat ≤ 2150) ∧
      ¬ (stateE1.fsm = .data ∧ ¬ (3000 ≤ (800#32).toNat ∧ (800#32).toNat ≤ 8000) ∧
        ¬ (800 ≤ (800#32).toNat ∧ (800#32).toNat ≤ 2150)) := by decide
theorem witness_SliceVerdicts : (1650 ≤ (1650#32).toNat ∧ (1650#32).toNat ≤ 2150) ∧ (800 ≤ (1100#32).toNat ∧ (1100#32).toNat ≤ 1100) ∧
    ¬ (1650 ≤ (1649#32).toNat ∧ (1649#32).toNat ≤ 2150) ∧ ¬ (800 ≤ (1649#32).toNat ∧ (1649#32).toNat ≤ 1100) := by decide
theorem witness_FieldIsMostSignificantFirst :
    (∀ k < 12, oneHit params (e1.getD (12 + k) 0) = true ∨ zeroHit params (e1.getD (12 + k) 0) = true) ∧
      (oneHit params ((e1.set 23 1300).getD (12 + 11) 0) = false ∧ zeroHit params ((e1.set 23 1300).getD (12 + 11) 0) = false ∧
        ∀ j < 11, oneHit params ((e1.set 23 1300).getD (12 + j) 0) = true ∨ zeroHit params ((e1.set 23 1300).getD (12 + j) 0) = true) := by
  decide
theorem witness_WrongLengthReported : (35 : Nat) ≠ params.frameBits ∧ (37 : Nat) ≠ 36 := by decide
theorem scanned_e1 : ∀ p : Nat, Scanned p → InBitWindow (e1.getD p 0) := by
  intro p hp
  have hlt : p < 36 := by simp only [Scanned] at hp; omega
  revert hp
  exact (by decide : ∀ q : Fin 36, (q.val < 9 ∨ (10 ≤ q.val ∧ q.val < 24) ∨ (28 ≤ q.val ∧ q.val < 36)) →
    ((800 ≤ (e1.getD q.val 0).toNat ∧ (e1.getD q.val 0).toNat ≤ 1100) ∨
      (1650 ≤ (e1.getD q.val 0).toNat ∧ (e1.getD q.val 0).toNat ≤ 2150))) ⟨p, hlt⟩
theorem witness_LowestBadScannedDurationReported :
    Scanned 35 ∧ ¬ InBitWindow ((e1.set 35 1500).getD 35 0) ∧ ∀ q < 35, Scanned q → InBitWindow ((e1.set 35 1500).getD q 0) := by
  refine ⟨by unfold Scanned; decide, by unfold InBitWindow; decide, fun q hq hs => ?_⟩
  have : (e1.set 35 1500).getD q 0 = e1.getD q 0 := by
    simp only [List.getD_eq_getElem?_getD, List.getElem?_set_ne (by omega : (35 : Nat) ≠ q)]
  rw [this]; exact scanned_e1 q hs
theorem witness_UnscannedPositionsIgnored : ∀ p : Nat, Scanned p → e1.getD p 0 = (e1.set 9 5000).getD p 0 := by
  intro p hp
  have hne : (9 : Nat) ≠ p := by simp only [Scanned] at hp; omega
  simp only [List.getD_eq_getElem?_getD, List.getElem?_set_ne hne]
theorem witness_GoodFrameDecodesToItsFields : ∀ p : Nat, Scanned p → InBitWindow (e1.getD p 0) := scanned_e1
theorem witness_TemperatureInterpretation : (2049#12).toNat > 2048 ∧ (2048#12).toNat ≤ 2048 := by decide
theorem witness_TemperatureRoundTrip : (-2047 : Int) ≤ -2047 ∧ (-2047 : Int) ≤ 2048 ∧ (2048 : Int) ≤ 2048 := by decide
theorem witness_ChannelFilterDecides :
    (⟨5, 1, 1, 215, 21, 5, 47⟩ : Reading).channel.toNat ≠ (2#8).toNat ∧ (⟨5, 1, 1, 215, 21, 5, 47⟩ : Reading).channel.toNat = (1#8).toNat ∧
      ¬ (1 ≤ (5#8).toNat ∧ (5#8).toNat ≤ 4) ∧ ¬ (1 ≤ (0#8).toNat ∧ (0#8).toNat ≤ 4) := by decide
theorem witness_ResultPortWrittenByDecodeOnly :
    Instr.dataEof 3000 ≠ .reset ∧ Instr.dataEof 3000 ≠ .ack ∧ Instr.dataEof 3000 ≠ .decode ∧
      exec (.dataEof 3000) stateE1 = .next (armDataEof 3000 stateE1) := ⟨by decide, by decide, by decide, rfl⟩
theorem witness_StepRunsDecodedInstruction :
    { State.reset with pending := [0x4000001F4, 0x600000000] }.pending = 0x4000001F4 :: [0x600000000] ∧
      decodeTxn 0x4000001F4 = .ok (.event 500 .low) := by decide
theorem witness_RefusedWordSetsTheMark :
    { State.reset with pending := [0x1FFFFFFFF] }.pending = 0x1FFFFFFFF :: [] ∧
      (0 < (0x1FFFFFFFF : TxnWord).toNat ∧ (0x1FFFFFFFF : TxnWord).toNat < 2 ^ 33) ∧ 3 * 2 ^ 33 < (0x600000001 : TxnWord).toNat := by decide
theorem witness_YieldChangesNothing : State.reset.pending = [] := by decide
theorem witness_RefusedMarkIsNeverCleared :
    exec .reset State.reset = .next State.reset.applyReset ∧
      step { State.reset with pending := [0], refused := true } = .next ({ State.reset with refused := true }).applyReset ∧
      { State.reset with pending := [0], refused := true }.refused = true := ⟨rfl, rfl, rfl⟩
theorem witness_StepKeepsChannelAndWordOrder :
    step { stateE1 with pending := [0x600000000, 0] } = .next ({ stateE1 with pending := [0] }).clearFlags := rfl

/-- E1's cells lie in the bit range, and the flags and lengths are those of a legal state. -/
theorem stateE1_inv : { stateE1 with pending := [0x500000FA0] }.Inv := by
  refine ⟨by decide, fun d hd => ?_, by decide⟩
  have hm : d ∈ (Vector.ofFn (fun k : Fin 36 => e1.getD k.val 0)).toList := List.mem_of_mem_take hd
  rw [Vector.toList_ofFn, List.mem_ofFn] at hm
  obtain ⟨k, rfl⟩ := hm
  revert k; decide
theorem stateE1_port : { stateE1 with pending := [0x500000FA0] }.PortOk := by
  refine ⟨rfl, fun k => ⟨fun h => absurd h (Nat.not_lt_zero _), fun _ => ?_⟩, by decide⟩
  revert k; decide
theorem witness_StepKeepsStateInvariants : { stateE1 with pending := [0x500000FA0] }.Inv ∧
    step { stateE1 with pending := [0x500000FA0] } = .next (deliverEvent 4000 .high stateE1) := ⟨stateE1_inv, rfl⟩
theorem witness_StepKeepsResultPortLegal : { stateE1 with pending := [0x500000FA0] }.Inv ∧ { stateE1 with pending := [0x500000FA0] }.PortOk ∧
    step { stateE1 with pending := [0x500000FA0] } = .next (deliverEvent 4000 .high stateE1) := ⟨stateE1_inv, stateE1_port, rfl⟩
theorem witness_SamplerKeepsPulsesAndGapsApart :
    (stateIn .pulse).SamplerInv ∧ exec (.poll .low 500) (stateIn .pulse) = .next (pollOp .low 500 (stateIn .pulse)) :=
  ⟨⟨by decide, by decide⟩, rfl⟩
theorem witness_UnspecifiedValuesAreNeverRead :
    Agree State.reset { State.reset with prevLevel := .high, pbuf := Vector.replicate 36 7 } := by
  constructor <;> simp [State.payload, State.storedLen, State.reset]
theorem witness_NoiseLeavesIdleUntouched : State.reset.fsm = .pulseIdle ∧
    ∀ e ∈ [((299 : Duration), Level.low), (601, .low), (450, .high)], ¬ (e.2 = .low ∧ 300 ≤ e.1.toNat ∧ e.1.toNat ≤ 600) := by
  refine ⟨rfl, ?_⟩
  simp [Config.durBits]
theorem witness_FrameHandsItsGapsToTheDecoder :
    State.reset.fsm = .pulseIdle ∧ State.reset.plen = 0 ∧ (300 ≤ (300#32).toNat ∧ (300#32).toNat ≤ 600) ∧
      (2000 ≤ (8000#32).toNat ∧ (8000#32).toNat ≤ 8000) ∧
      (∀ b ∈ [((600 : Duration), (800 : Duration)), (300, 2150)],
        (300 ≤ b.1.toNat ∧ b.1.toNat ≤ 600) ∧ (800 ≤ b.2.toNat ∧ b.2.toNat ≤ 2150)) ∧
      (3000 ≤ (3000#32).toNat ∧ (3000#32).toNat ≤ 8000) ∧ [((600 : Duration), (800 : Duration)), (300, 2150)] ≠ [] := by
  simp [State.reset, Config.durBits]
theorem witness_CounterReadsWindowsExactly : (8000 : Nat) ≤ 8000 := by decide
theorem witness_RenderWritesTheTextRecord : { ResultRecord.zero with kind := .reading }.kind = .reading ∧ ResultRecord.zero.kind ≠ .reading := by
  decide

end Sys2Proof.Tests
end

section
/-!
PROOF. The invariants I1, I2 and I3 (10_state.md R19): one rule for each shared operation, then events, polls and steps.
-/

namespace Sys2Proof.Machine

variable {s t : State}

/-! ## The shared operations -/

/-- The invariants speak of the frame state, the payload and the two status bits only. -/
theorem State.Inv.of_same (h : s.Inv) (hfsm : t.fsm = s.fsm) (hplen : t.plen = s.plen) (hpay : t.payload = s.payload)
    (hvalid : t.resValid = s.resValid) (hover : t.resOverrun = s.resOverrun) : t.Inv where
  idle_empty := by rw [hfsm, hplen]; exact h.idle_empty
  cells_in_range := by rw [hpay]; exact h.cells_in_range
  overrun_valid := by rw [hvalid, hover]; exact h.overrun_valid

theorem State.Inv.setPending (h : s.Inv) (ws : List TxnWord) : (s.setPending ws).Inv :=
  h.of_same rfl rfl rfl rfl rfl

theorem State.Inv.markRefused (h : s.Inv) : s.markRefused.Inv :=
  h.of_same rfl rfl rfl rfl rfl

theorem State.Inv.strobeCounter (h : s.Inv) : s.strobeCounter.Inv :=
  h.of_same rfl rfl rfl rfl rfl

theorem State.Inv.latchLevel (h : s.Inv) (l : Level) : (s.latchLevel l).Inv :=
  h.of_same rfl rfl rfl rfl rfl

theorem State.Inv.setPrevLevel (h : s.Inv) (l : Level) : (s.setPrevLevel l).Inv :=
  h.of_same rfl rfl rfl rfl rfl

/-- A new frame state owes I1 only. -/
theorem State.Inv.setFsm (h : s.Inv) {f : FrameState} (hempty : f = .pulseIdle ∨ f = .preamble → s.plen = 0) :
    (s.setFsm f).Inv where
  idle_empty := hempty
  cells_in_range := h.cells_in_range
  overrun_valid := h.overrun_valid

theorem State.Inv.clearPayload (h : s.Inv) : s.clearPayload.Inv where
  idle_empty _ := State.clearPayload_plen s
  cells_in_range := by simp
  overrun_valid := h.overrun_valid

theorem State.Inv.clearFlags (h : s.Inv) : s.clearFlags.Inv where
  idle_empty := h.idle_empty
  cells_in_range := h.cells_in_range
  overrun_valid := by simp

theorem State.Inv.decodeOp (h : s.Inv) : (decodeOp s).Inv where
  idle_empty := h.idle_empty
  cells_in_range := h.cells_in_range
  overrun_valid _ := State.writeResult_resValid s _

theorem State.applyReset_inv (s : State) : s.applyReset.Inv where
  idle_empty _ := s.applyReset_plen
  cells_in_range := by simp
  overrun_valid := by simp

theorem State.reset_inv : State.reset.Inv where
  idle_empty _ := rfl
  cells_in_range := by simp [State.payload, State.storedLen, State.reset]
  overrun_valid := by simp [State.reset]

/-- Every cell after an append is an old one or the new one (I2). -/
theorem State.Inv.appendDuration_cells (h : s.Inv) {d : Duration} (hd : 800 ≤ d.toNat ∧ d.toNat ≤ 2150) :
    ∀ e ∈ (s.appendDuration d).payload, 800 ≤ e.toNat ∧ e.toNat ≤ 2150 := by
  rw [State.appendDuration_payload]
  split
  · intro e he
    rcases List.mem_append.1 he with hold | hnew
    · exact h.cells_in_range e hold
    · exact List.mem_singleton.1 hnew ▸ hd
  · exact h.cells_in_range

/-- What DATA_BIT does: the append may leave I1 only because the automaton goes to `Pulse`. -/
theorem State.Inv.appendDuration_setFsm_pulse (h : s.Inv) {d : Duration} (hd : 800 ≤ d.toNat ∧ d.toNat ≤ 2150) :
    ((s.appendDuration d).setFsm .pulse).Inv where
  idle_empty := by simp
  cells_in_range := h.appendDuration_cells hd
  overrun_valid := h.overrun_valid

/-! ## Events, polls and steps -/

theorem deliverEvent_inv (h : s.Inv) (d : Duration) (l : Level) : (deliverEvent d l s).Inv := by
  rcases deliverEvent_cases d l s with he | ⟨hf, -, -, he⟩ | ⟨hf, f, -, he⟩ | ⟨-, -, he⟩ | ⟨-, he⟩ | ⟨-, -, -, he⟩ |
    ⟨-, hb, he⟩ <;> rw [he]
  · exact h
  · exact h.setFsm fun _ => h.idle_empty (.inl hf)
  · exact h.setFsm fun _ => h.idle_empty (.inr hf)
  · exact h.setFsm (by simp)
  · exact h.clearPayload.setFsm fun _ => State.clearPayload_plen s
  · exact h.decodeOp.clearPayload.setFsm fun _ => State.clearPayload_plen _
  · exact h.appendDuration_setFsm_pulse ((bitHit_iff d).1 hb)

theorem pollOp_inv (h : s.Inv) (l : Level) (n : Duration) : (pollOp l n s).Inv := by
  rcases pollOp_cases l s n with ⟨-, hp⟩ | ⟨-, -, hp⟩ | ⟨-, -, hp⟩ <;> rw [hp]
  · exact (h.latchLevel l).strobeCounter
  · exact h
  · exact deliverEvent_inv (h.strobeCounter.setPrevLevel l) n l

theorem step_inv (h : s.Inv) : ∃ t, step s = .next t ∧ t.Inv := by
  rcases step_cases s with ⟨-, hs⟩ | ⟨w, ws, -, ⟨-, hs⟩ | ⟨-, hs⟩ | ⟨l, n, -, hs⟩ | ⟨d, l, -, hs⟩ | ⟨-, hs⟩⟩
  · exact ⟨_, hs, h⟩
  · exact ⟨_, hs, (h.setPending ws).markRefused⟩
  · exact ⟨_, hs, State.applyReset_inv _⟩
  · exact ⟨_, hs, pollOp_inv (h.setPending ws) l n⟩
  · exact ⟨_, hs, deliverEvent_inv (h.setPending ws) d l⟩
  · exact ⟨_, hs, (h.setPending ws).clearFlags⟩

/-- Settles O49: the launch state has no payload and no flag, and `step_inv` covers what one step can do. -/
theorem stepKeepsStateInvariants : Obligations.StepKeepsStateInvariants := by
  refine ⟨State.reset_inv, fun s t hinv hstep => ?_⟩
  obtain ⟨u, hu, huinv⟩ := step_inv hinv
  rw [hstep] at hu
  cases hu
  exact huinv

end Sys2Proof.Machine
end

section
/-!
PROOF. The decoder of transaction words is total (30_encoding.md R44): where on the number line each answer stands.
-/

namespace Sys2Proof.Machine

/-- A word as a number, by its own fields (R43). -/
theorem toNat_txn_fields (w : TxnWord) :
    w.toNat = (txnKind w).toNat * 2 ^ 33 + (txnLevel w).toNat * 2 ^ 32 + (txnValue w).toNat := by
  rw [← toNat_txnWord, txnWord_fields]

/-- The kind is the quarter of the `2^35` words that the word stands in (R43). -/
theorem toNat_txnKind (w : TxnWord) : (txnKind w).toNat = w.toNat / 2 ^ 33 := by
  have hw := toNat_txn_fields w
  have hl : (txnLevel w).toNat < 2 := (txnLevel w).isLt
  have hv : (txnValue w).toNat < 2 ^ 32 := (txnValue w).isLt
  omega

/-- Of the words of one kind, only the first has no bit of `L` and `V` set (R44). -/
theorem txn_reserved_zero_iff (w : TxnWord) :
    txnLevel w = 0 ∧ txnValue w = 0 ↔ w.toNat = (txnKind w).toNat * 2 ^ 33 := by
  rw [toNat_txn_fields w, ← BitVec.toNat_inj, ← BitVec.toNat_inj]
  simp only [BitVec.ofNat_eq_ofNat, BitVec.toNat_ofNat, Nat.zero_mod]
  omega

/-- The quarter of the words of each kind (R43). -/
theorem txnKind_eq_iff (w : TxnWord) (k : BitVec 2) :
    txnKind w = k ↔ k.toNat * 2 ^ 33 ≤ w.toNat ∧ w.toNat < (k.toNat + 1) * 2 ^ 33 := by
  rw [← BitVec.toNat_inj, toNat_txnKind]
  omega

/-- The decoder's answers over the whole range of words (R44): RESET at the bottom, then POLL, then EVENT, then ACK, and
the two ranges of words with a reserved bit set. -/
theorem decodeTxn_ranges (w : TxnWord) :
    (w.toNat = 0 ∧ decodeTxn w = .ok .reset) ∨
      (2 ^ 33 ≤ w.toNat ∧ w.toNat < 2 * 2 ^ 33 ∧ ∃ l n, decodeTxn w = .ok (.poll l n)) ∨
      (2 * 2 ^ 33 ≤ w.toNat ∧ w.toNat < 3 * 2 ^ 33 ∧ ∃ d l, decodeTxn w = .ok (.event d l)) ∨
      (w.toNat = 3 * 2 ^ 33 ∧ decodeTxn w = .ok .ack) ∨
      (((0 < w.toNat ∧ w.toNat < 2 ^ 33) ∨ 3 * 2 ^ 33 < w.toNat) ∧ decodeTxn w = .error .reservedBits) := by
  have hkind := toNat_txnKind w
  have hlt := w.isLt
  unfold decodeTxn
  simp only [txn_reserved_zero_iff, txnKind_eq_iff, hkind, BitVec.toNat_ofNat, Nat.reducePow, Nat.reduceMod,
    Nat.reduceAdd, Nat.reduceMul] at hlt ⊢
  split
  case isTrue =>
    split
    · exact .inl ⟨by omega, rfl⟩
    · exact .inr (.inr (.inr (.inr ⟨by omega, rfl⟩)))
  case isFalse =>
    split
    case isTrue => exact .inr (.inl ⟨by omega, by omega, _, _, rfl⟩)
    case isFalse =>
      split
      case isTrue => exact .inr (.inr (.inl ⟨by omega, by omega, _, _, rfl⟩))
      case isFalse =>
        split
        · exact .inr (.inr (.inr (.inl ⟨by omega, rfl⟩)))
        · exact .inr (.inr (.inr (.inr ⟨by omega, rfl⟩)))

/-- Settles O3: the five ranges of `decodeTxn_ranges` are disjoint and the five answers are distinct, so each answer is
given in its own range only. -/
theorem refusedWordsAreReservedBits : Obligations.RefusedWordsAreReservedBits := by
  intro w
  rcases decodeTxn_ranges w with ⟨hw, h⟩ | ⟨hlo, hhi, l, n, h⟩ | ⟨hlo, hhi, d, l, h⟩ | ⟨hw, h⟩ | ⟨hw, h⟩ <;>
    simp [h] <;> omega

end Sys2Proof.Machine
end

section
/-!
PROOF. Positions 9 and 24 to 27 are in no field (30_encoding.md R40), so no decode outcome depends on them.
-/

namespace Sys2Proof.Machine

/-- The scanned positions are those of the five fields (R39, R40). -/
theorem mem_scannedPositions {p : Nat} : p ∈ scannedPositions ↔ Scanned p := by
  simp only [scannedPositions, fieldTable, idField, batteryField, channelField, tempField, humidityField, Scanned,
    ← List.range'_eq_map_range, List.flatMap_cons, List.flatMap_nil, List.mem_append, List.mem_range'_1,
    List.not_mem_nil, or_false]
  omega

section
variable {cells cells' : List Duration} (hagree : ∀ p, Scanned p → cells.getD p 0 = cells'.getD p 0)
include hagree

/-- Each cell of a field is at a scanned position. -/
theorem fieldCells_congr {f : Field} (hf : f ∈ fieldTable) : fieldCells cells f = fieldCells cells' f := by
  refine List.map_congr_left fun k hk => hagree _ (mem_scannedPositions.1 ?_)
  exact List.mem_flatMap.2 ⟨f, hf, List.mem_map_of_mem hk⟩

theorem extractField_congr (c : Params) {f : Field} (hf : f ∈ fieldTable) :
    extractField c cells f = extractField c cells' f :=
  congrArg (extractBits c · 0) (fieldCells_congr hagree hf)

theorem extractFields_congr (c : Params) : extractFields c cells = extractFields c cells' := by
  have hfield {f : Field} (hf : f ∈ fieldTable) := extractField_congr hagree c hf
  unfold extractFields
  rw [hfield (f := idField) (by decide), hfield (f := batteryField) (by decide), hfield (f := channelField) (by decide),
    hfield (f := tempField) (by decide), hfield (f := humidityField) (by decide)]

end

/-- Settles O31: `DecodeFn` reads the payload through its five fields, whose cells are at scanned positions. -/
theorem unscannedPositionsIgnored : Obligations.UnscannedPositionsIgnored := by
  intro c len cells cells' cfg hagree
  unfold decodeFn
  rw [extractFields_congr hagree c]

end Sys2Proof.Machine
end

section
/-!
PROOF. POLL case by case (40_sampler.md R53): an equation for each of its three cases, over the meanings of POLL and
EVENT.
-/

namespace Sys2Proof.Machine

/-! ## The meanings of POLL and EVENT -/

@[simp] theorem exec_poll (l : Level) (n : Duration) (s : State) : exec (.poll l n) s = .next (pollOp l n s) := rfl

@[simp] theorem exec_event (d : Duration) (l : Level) (s : State) :
    exec (.event d l) s = .next (deliverEvent d l s) := rfl

/-! ## The three cases of a poll -/

section
variable {l : Level} {s : State} (n : Duration)

theorem pollOp_first (hfirst : s.prevValid = false) : pollOp l n s = (s.latchLevel l).strobeCounter :=
  if_pos hfirst

theorem pollOp_unchanged (hvalid : s.prevValid = true) (hsame : l = s.prevLevel) : pollOp l n s = s := by
  simp [pollOp, hvalid, hsame]

theorem pollOp_changed (hvalid : s.prevValid = true) (hedge : l ≠ s.prevLevel) :
    pollOp l n s = deliverEvent n l (s.strobeCounter.setPrevLevel l) := by
  simp [pollOp, hvalid, hedge]

end

/-- Settles O13: each clause is one case of the poll, and a changed level delivers the event in the state that EVENT
then starts from. -/
theorem pollSamplesThePin : Obligations.PollSamplesThePin := by
  intro s l n
  refine ⟨fun hfirst => ?first, fun hvalid hsame => ?unchanged, fun hvalid hedge => ?changed⟩
  case first => rw [exec_poll, pollOp_first n hfirst]; rfl
  case unchanged => rw [exec_poll, pollOp_unchanged n hvalid hsame]
  case changed =>
    refine ⟨_, exec_poll l n s, ?_⟩
    rw [pollOp_changed n hvalid hedge]
    exact exec_event n l (s.strobeCounter.setPrevLevel l)

end Sys2Proof.Machine
end

section
/-!
PROOF. The classifier's windows (41_pulse_classifier.md R58 to R63): what Laws/Classifier leaves out, the other observed
variant of the logical-0 window and the combined range's independence of `ZERO_MAX`.
-/

namespace Sys2Proof.Machine

/-- The logical-0 window of the other observed variant (R62). -/
theorem zeroHit_paramsZero1000_iff (d : Duration) :
    zeroHit paramsZero1000 d = true ↔ 800 ≤ d.toNat ∧ d.toNat ≤ 1000 := inW_iff _ _ _

/-- The combined range runs from `ZERO_MIN` to `ONE_MAX`, so no value of `ZERO_MAX` moves it (R63). -/
theorem bitHit_with_zeroMax (c : Params) (z d : Duration) : bitHit { c with zeroMax := z } d = bitHit c d := rfl

/-- Settles O9: each predicate is `inW_iff` at its own bounds, and `ZERO_MAX` is not a bound of `BitHit`. -/
theorem classifierWindowBounds : Obligations.ClassifierWindowBounds := fun d =>
  ⟨syncHit_iff d, preHit_iff d, eofHit_iff d, oneHit_iff d, zeroHit_iff d, zeroHit_paramsZero1000_iff d, bitHit_iff d,
    fun z => bitHit_with_zeroMax params z d⟩

end Sys2Proof.Machine
end

section
/-!
PROOF. Noise in `PulseIdle` (42_frame_synchronizer.md R78): running a sequence of instructions, and the events that
`PulseIdle` skips.
-/

namespace Sys2Proof.Machine

variable {s t : State}

@[simp] theorem runInstrs_nil (s : State) : runInstrs [] s = .next s := rfl

/-- A run goes on from the state its first instruction answers. -/
theorem runInstrs_cons {i : Instr} (is : List Instr) (hi : exec i s = .next t) :
    runInstrs (i :: is) s = runInstrs is t := by
  rw [runInstrs, hi]

/-- `PulseIdle` skips every event that is no falling edge with a sync duration (R67). -/
theorem deliverEvent_noise {d : Duration} {l : Level} (hidle : s.fsm = .pulseIdle)
    (hnoise : ¬ (l = .low ∧ 300 ≤ d.toNat ∧ d.toNat ≤ 600)) : deliverEvent d l s = s := by
  rw [← syncHit_iff] at hnoise
  rw [deliverEvent_pulseIdle d l s hidle, if_neg hnoise]

/-- Settles O54, by induction on the events: each is skipped, so the next one meets `PulseIdle` again. -/
theorem noiseLeavesIdleUntouched : Obligations.NoiseLeavesIdleUntouched := by
  intro s es hidle hnoise
  induction es with
  | nil => exact runInstrs_nil s
  | cons e es ih =>
    obtain ⟨he, hes⟩ := List.forall_mem_cons.1 hnoise
    have hskip : exec (.event e.1 e.2) s = .next s := by rw [exec_event, deliverEvent_noise hidle he]
    rw [List.map_cons, runInstrs_cons _ hskip, ih hes]

end Sys2Proof.Machine
end

section
/-!
PROOF. The arms of the automaton (42_frame_synchronizer.md R66 to R75): the meaning of each as an instruction, what each
does under its rule's condition, and the order in which `Data` tests its three.
-/

namespace Sys2Proof.Machine

/-! ## The arms and DECODE as instructions -/

section
variable (d : Duration) (p : Level) (s : State)

@[simp] theorem exec_idleSync : exec (.idleSync d p) s = .next (armIdleSync d p s) := rfl
@[simp] theorem exec_idleStay : exec (.idleStay d p) s = .next s := rfl
@[simp] theorem exec_preOk : exec (.preOk d) s = .next (armPreOk d s) := rfl
@[simp] theorem exec_preAbandon : exec (.preAbandon d) s = .next (armPreAbandon d s) := rfl
@[simp] theorem exec_pulseOk : exec (.pulseOk d) s = .next (armPulseOk d s) := rfl
@[simp] theorem exec_pulseFail : exec (.pulseFail d) s = .next (armPulseFail d s) := rfl
@[simp] theorem exec_dataEof : exec (.dataEof d) s = .next (armDataEof d s) := rfl
@[simp] theorem exec_dataBit : exec (.dataBit d) s = .next (armDataBit d s) := rfl
@[simp] theorem exec_dataFail : exec (.dataFail d) s = .next (armDataFail d s) := rfl
@[simp] theorem exec_decode : exec .decode s = .next (decodeOp s) := rfl

end

/-! ## The arms under their rules' conditions -/

section
variable {d : Duration} {s : State}

theorem armIdleSync_takes (hs : s.fsm = .pulseIdle) (hd : 300 ≤ d.toNat ∧ d.toNat ≤ 600) :
    armIdleSync d .high s = s.setFsm .preamble :=
  if_pos ⟨hs, rfl, (syncHit_iff d).2 hd⟩

theorem armPreOk_takes (hs : s.fsm = .preamble) (hd : 2000 ≤ d.toNat ∧ d.toNat ≤ 8000) :
    armPreOk d s = s.setFsm .pulse :=
  if_pos ⟨hs, (preHit_iff d).2 hd⟩

theorem armPreAbandon_takes (hs : s.fsm = .preamble) (hd : ¬ (2000 ≤ d.toNat ∧ d.toNat ≤ 8000)) :
    armPreAbandon d s = s.setFsm .pulseIdle :=
  if_pos ⟨hs, mt (preHit_iff d).1 hd⟩

theorem armPulseOk_takes (hs : s.fsm = .pulse) (hd : 300 ≤ d.toNat ∧ d.toNat ≤ 600) :
    armPulseOk d s = s.setFsm .data :=
  if_pos ⟨hs, (syncHit_iff d).2 hd⟩

theorem armPulseFail_takes (hs : s.fsm = .pulse) (hd : ¬ (300 ≤ d.toNat ∧ d.toNat ≤ 600)) :
    armPulseFail d s = s.clearPayload.setFsm .pulseIdle :=
  if_pos ⟨hs, mt (syncHit_iff d).1 hd⟩

theorem armDataEof_takes (hs : s.fsm = .data) (hd : 3000 ≤ d.toNat ∧ d.toNat ≤ 8000) :
    armDataEof d s = (if s.plen ≠ 0 then decodeOp s else s).clearPayload.setFsm .pulseIdle :=
  if_pos ⟨hs, (eofHit_iff d).2 hd⟩

theorem armDataBit_takes (hs : s.fsm = .data) (heof : ¬ (3000 ≤ d.toNat ∧ d.toNat ≤ 8000))
    (hbit : 800 ≤ d.toNat ∧ d.toNat ≤ 2150) : armDataBit d s = (s.appendDuration d).setFsm .pulse :=
  if_pos ⟨hs, mt (eofHit_iff d).1 heof, (bitHit_iff d).2 hbit⟩

theorem armDataFail_takes (hs : s.fsm = .data) (heof : ¬ (3000 ≤ d.toNat ∧ d.toNat ≤ 8000))
    (hbit : ¬ (800 ≤ d.toNat ∧ d.toNat ≤ 2150)) : armDataFail d s = s.clearPayload.setFsm .pulseIdle :=
  if_pos ⟨hs, mt (eofHit_iff d).1 heof, mt (bitHit_iff d).1 hbit⟩

/-- Clearing a payload that is empty already changes nothing. -/
theorem State.clearPayload_of_empty (hempty : s.plen = 0) : s.clearPayload = s := by
  rw [State.clearPayload, ← hempty]

/-- The two windows that `Data` tests are disjoint, so its priority order decides nothing with the source's bounds. -/
theorem not_eofHit_and_bitHit (d : Duration) : ¬ (eofHit params d = true ∧ bitHit params d = true) := by
  rw [eofHit_iff, bitHit_iff]
  omega

/-! ## A decode of the wrong length -/

/-- The length check comes first (44_field_extractor.md R83). -/
theorem decodeFn_of_ne_frameBits {c : Params} {len : Nat} (hlen : len ≠ c.frameBits) (cells : List Duration)
    (cfg : BitVec 8) : decodeFn c len cells cfg = .errLength len :=
  if_pos hlen

/-- Decoding a payload that is no frame writes `ERR_LENGTH` with the length as counted: 16 bits fit the error's 32. -/
theorem decodeOp_res_of_wrong_length (hlen : s.plen ≠ 36) :
    (decodeOp s).res.kind = .errLength ∧ (decodeOp s).res.errValue.toNat = s.plen.toNat := by
  have hne : s.plen.toNat ≠ params.frameBits := fun h => hlen (BitVec.eq_of_toNat_eq h)
  have hlt := s.plen_lt
  rw [decodeOp, decodeFn_of_ne_frameBits hne, State.writeResult_res]
  refine ⟨rfl, ?_⟩
  show (BitVec.ofNat 32 s.plen.toNat).toNat = s.plen.toNat
  rw [BitVec.toNat_ofNat, Nat.mod_eq_of_lt (by omega)]

end

/-! ## The arms of `PulseIdle`, `Preamble` and `Pulse` -/

/-- Settles O18: the arm under R66's condition, and the two sides of that condition in `selectArm_pulseIdle`. -/
theorem idleSyncLeavesIdle : Obligations.IdleSyncLeavesIdle := by
  refine ⟨rfl, fun s d p hs hp hlo hhi => ?effect, fun d p => ?selection⟩
  case effect =>
    subst hp
    rw [exec_idleSync, armIdleSync_takes hs ⟨hlo, hhi⟩]
    rfl
  case selection =>
    rw [selectArm_pulseIdle, ← syncHit_iff]
    exact ⟨fun hfall => if_pos hfall, fun hother => if_neg hother⟩

/-- Settles O19: IDLE_STAY answers the state it is given, whatever its operands. -/
theorem idleStaySkips : Obligations.IdleStaySkips :=
  ⟨rfl, fun s d p _ _ => exec_idleStay d p s⟩

/-- Settles O20: the two arms under the complementary conditions of R68 and R69. -/
theorem preambleArmsAcceptOrAbandon : Obligations.PreambleArmsAcceptOrAbandon := by
  refine ⟨rfl, rfl, fun s d hs => ⟨fun hd => ?accept, fun hd => ?abandon⟩⟩
  case accept => rw [exec_preOk, armPreOk_takes hs hd]; rfl
  case abandon => rw [exec_preAbandon, armPreAbandon_takes hs hd]; rfl

/-- Settles O21: the two arms under the complementary conditions of R70 and R71. -/
theorem pulseArmsAcceptOrDiscard : Obligations.PulseArmsAcceptOrDiscard := by
  refine ⟨rfl, rfl, fun s d hs => ⟨fun hd => ?accept, fun hd => ?discard⟩⟩
  case accept => rw [exec_pulseOk, armPulseOk_takes hs hd]; rfl
  case discard => rw [exec_pulseFail, armPulseFail_takes hs hd]; rfl

/-! ## The arms of `Data` -/

/-- Settles O22: `selectArm_data` on each outcome of its two tests. -/
theorem dataOutcomesInPriorityOrder : Obligations.DataOutcomesInPriorityOrder := by
  refine ⟨fun c p d => ?_, not_eofHit_and_bitHit⟩
  rw [selectArm_data]
  exact ⟨fun heof => by simp [heof], fun heof hbit => by simp [heof, hbit], fun heof hbit => by simp [heof, hbit]⟩

/-- Settles O23: an empty payload has nothing to decode or to clear; any other goes through DECODE, whose length check
names every length but 36. -/
theorem dataEofDecodesAndClears : Obligations.DataEofDecodesAndClears := by
  refine ⟨rfl, fun s d hs hlo hhi => ?_⟩
  rw [exec_dataEof, armDataEof_takes hs ⟨hlo, hhi⟩]
  refine ⟨fun hempty => ?dropped, fun hsome => ⟨decodeOp s, exec_decode s, ?decoded, decodeOp_res_of_wrong_length⟩⟩
  case dropped => rw [if_neg (not_not_intro hempty), State.clearPayload_of_empty hempty]; rfl
  case decoded => rw [if_pos hsome]; rfl

/-- Settles O24: the arm is `State.appendDuration` and the way to `Pulse`, so the length and the cells are those of an
append. -/
theorem dataBitAppendsTheDuration : Obligations.DataBitAppendsTheDuration := by
  refine ⟨rfl, fun s d hs heof hlo hhi => ⟨(s.appendDuration d).setFsm .pulse, ?_, rfl, ?_, ?_⟩⟩
  · rw [exec_dataBit, armDataBit_takes hs heof ⟨hlo, hhi⟩]
  · exact s.appendDuration_plen_toNat d
  · exact s.appendDuration_getElem d

/-- Settles O25: the arm under R75's condition. -/
theorem dataFailDiscardsTheFrame : Obligations.DataFailDiscardsTheFrame := by
  refine ⟨rfl, fun s d hs heof hbit => ?_⟩
  rw [exec_dataFail, armDataFail_takes hs heof hbit]
  rfl

end Sys2Proof.Machine
end

section
/-!
PROOF. The bit slicer (43_bit_slicer.md R80) and field assembly (R81): `extractBits` runs through bits into `shiftBits`,
and over a field `shiftBits` is the sum of its bits, the first received most significant.
-/

namespace Sys2Proof.Machine

/-! ## The slicer's verdicts -/

section
variable {c : Params} {d : Duration}

theorem slice_of_oneHit (hone : oneHit c d = true) : slice c d = .bit1 :=
  if_pos hone

theorem slice_of_zeroHit (hone : ¬ oneHit c d = true) (hzero : zeroHit c d = true) : slice c d = .bit0 := by
  rw [slice, if_neg hone, if_pos hzero]

theorem slice_of_no_hit (hone : oneHit c d = false) (hzero : zeroHit c d = false) : slice c d = .outOfRange d :=
  (slice_outOfRange_iff c d d).2 ⟨rfl, hone, hzero⟩

end

/-- Settles O27: the windows as numbers; the two are disjoint, so that testing for a 1 first loses no 0. -/
theorem sliceVerdicts : Obligations.SliceVerdicts := by
  intro d
  rw [← oneHit_iff, ← zeroHit_iff]
  refine ⟨slice_of_oneHit, fun hzero => slice_of_zeroHit ?_ hzero, fun hone hzero => ?_⟩
  · rw [zeroHit_iff] at hzero
    rw [oneHit_iff]
    omega
  · exact slice_of_no_hit (Bool.eq_false_iff.2 hone) (Bool.eq_false_iff.2 hzero)

/-! ## Extraction through bits and into an out-of-range duration -/

section
variable {c : Params}

/-- One bit is shifted in below the bits before it. -/
theorem extractBits_cons_of_isBit {d : Duration} (hd : IsBit c d) (ds : List Duration) (acc : Nat) :
    extractBits c (d :: ds) acc = extractBits c ds (acc * 2 + (oneHit c d).toNat) := by
  rw [extractBits]
  by_cases hone : oneHit c d = true
  · rw [slice_of_oneHit hone, hone]; rfl
  · rw [slice_of_zeroHit hone (hd.resolve_left hone), Bool.eq_false_iff.2 hone]; rfl

theorem extractBits_cons_of_no_hit {d : Duration} (hone : oneHit c d = false) (hzero : zeroHit c d = false)
    (ds : List Duration) (acc : Nat) : extractBits c (d :: ds) acc = .error d := by
  rw [extractBits, slice_of_no_hit hone hzero]

/-- Extraction goes on behind a run of bits with their value. -/
theorem extractBits_append_of_bits {pre : List Duration} (hpre : ∀ d ∈ pre, IsBit c d) (ds : List Duration) (acc : Nat) :
    extractBits c (pre ++ ds) acc = extractBits c ds (shiftBits c pre acc) := by
  induction pre generalizing acc with
  | nil => rfl
  | cons d pre ih =>
    obtain ⟨hd, hpre⟩ := List.forall_mem_cons.1 hpre
    rw [List.cons_append, extractBits_cons_of_isBit hd, ih hpre]
    rfl

theorem extractBits_of_bits {ds : List Duration} (hds : ∀ d ∈ ds, IsBit c d) (acc : Nat) :
    extractBits c ds acc = .ok (shiftBits c ds acc) := by
  have h := extractBits_append_of_bits hds [] acc
  rwa [List.append_nil] at h

/-- The first duration that is no bit is the error, whatever stands behind it. -/
theorem extractBits_of_firstBad {ds : List Duration} {e : Duration} (h : FirstBad c ds e) (acc : Nat) :
    extractBits c ds acc = .error e := by
  obtain ⟨pre, post, rfl, hpre, hone, hzero⟩ := h
  rw [extractBits_append_of_bits hpre, extractBits_cons_of_no_hit hone hzero]

end

/-! ## The cells of a field -/

section
variable (cells : List Duration) (o : Nat)

/-- A field is its first `m` cells and the field behind them. -/
theorem fieldCells_add (m n : Nat) :
    fieldCells cells ⟨o, m + n⟩ = fieldCells cells ⟨o, m⟩ ++ fieldCells cells ⟨o + m, n⟩ := by
  simp [fieldCells, List.range_add, Nat.add_assoc]

theorem fieldCells_succ (w : Nat) :
    fieldCells cells ⟨o, w + 1⟩ = cells.getD o 0 :: fieldCells cells ⟨o + 1, w⟩ := by
  simp [fieldCells, List.range_succ_eq_map, Nat.add_assoc, Nat.add_comm 1]

theorem forall_mem_fieldCells {P : Duration → Prop} {w : Nat} :
    (∀ d ∈ fieldCells cells ⟨o, w⟩, P d) ↔ ∀ k < w, P (cells.getD (o + k) 0) := by
  simp [fieldCells]

/-- The value of a field (R81): each further cell doubles the weights of those before it and has weight 1. -/
theorem shiftBits_fieldCells (c : Params) (w : Nat) :
    shiftBits c (fieldCells cells ⟨o, w⟩) 0 =
      ∑ k ∈ Finset.range w, (oneHit c (cells.getD (o + k) 0)).toNat * 2 ^ (w - 1 - k) := by
  induction w with
  | zero => rfl
  | succ w ih =>
    have hlast : shiftBits c (fieldCells cells ⟨o, w + 1⟩) 0 =
        shiftBits c (fieldCells cells ⟨o, w⟩) 0 * 2 + (oneHit c (cells.getD (o + w) 0)).toNat := by
      rw [fieldCells_add, shiftBits, List.foldl_append]
      rfl
    rw [hlast, ih, Finset.sum_range_succ, Finset.sum_mul]
    congr 1
    · refine Finset.sum_congr rfl fun k hk => ?_
      have hk : k < w := Finset.mem_range.1 hk
      rw [Nat.mul_assoc, ← pow_succ, show w - 1 - k + 1 = w + 1 - 1 - k by omega]
    · simp

end

/-- Settles O28: a field of bits has the value of `shiftBits_fieldCells`; otherwise the cells before position `k` are
bits, and the one there is the field's first bad one. -/
theorem fieldIsMostSignificantFirst : Obligations.FieldIsMostSignificantFirst := by
  intro c cells o w
  refine ⟨fun hbits => ?allBits, fun k hk hone hzero hbefore => ?firstBad⟩
  case allBits =>
    rw [← shiftBits_fieldCells]
    exact extractBits_of_bits ((forall_mem_fieldCells cells o).2 hbits) 0
  case firstBad =>
    obtain ⟨n, rfl⟩ := Nat.exists_eq_add_of_lt hk
    refine extractBits_of_firstBad ⟨fieldCells cells ⟨o, k⟩, fieldCells cells ⟨o + k + 1, n⟩, ?_, ?_, hone, hzero⟩ 0
    · rw [Nat.add_assoc, fieldCells_add, fieldCells_succ]
    · exact (forall_mem_fieldCells cells o).2 hbefore

end Sys2Proof.Machine
end

section
/-!
PROOF. The field extractor (44_field_extractor.md R82 to R91): each field of an interpreted reading as a number, the
channel filter, and what a frame whose scanned durations are all bits decodes to.
-/

namespace Sys2Proof.Machine

/-! ## The fields of an interpreted reading -/

/-- The range of `temp_int` (R86): truncating division is monotone, and its ends are those of the tenths. -/
theorem tempIntPart_range {t : Int} (hlo : -2047 ≤ t) (hhi : t ≤ 2048) : -204 ≤ tempIntPart t ∧ tempIntPart t ≤ 204 :=
  ⟨Int.tdiv_le_tdiv (by decide) hlo, Int.tdiv_le_tdiv (by decide) hhi⟩

theorem tempFracDigit_le (t : Int) : tempFracDigit t ≤ 9 :=
  Nat.le_of_lt_succ (Nat.mod_lt _ (by decide))

section
variable (raw : RawFields)

theorem interpret_channel_toNat : (interpret raw).channel.toNat = raw.channel.toNat + 1 :=
  interpretChannel_toNat raw.channel

/-- The range of R86 fits the 13 bits of the record, so the tenths are exact. -/
theorem interpret_tempTenths_toInt : (interpret raw).tempTenths.toInt = interpretTemp raw.temp := by
  obtain ⟨hlo, hhi⟩ := interpretTemp_range raw.temp
  exact BitVec.toInt_ofInt_eq_self (by omega) (by omega) (by omega)

theorem interpret_tempInt_toInt : (interpret raw).tempInt.toInt = tempIntPart (interpretTemp raw.temp) := by
  obtain ⟨htlo, hthi⟩ := interpretTemp_range raw.temp
  obtain ⟨hlo, hhi⟩ := tempIntPart_range htlo hthi
  exact BitVec.toInt_ofInt_eq_self (by omega) (by omega) (by omega)

theorem interpret_tempFrac_toNat : (interpret raw).tempFrac.toNat = tempFracDigit (interpretTemp raw.temp) := by
  have hdigit := tempFracDigit_le (interpretTemp raw.temp)
  exact (BitVec.toNat_ofNat _ _).trans (Nat.mod_eq_of_lt (by omega))

theorem interpret_humidity_toNat : (interpret raw).humidity.toNat = min raw.humidity.toNat 100 :=
  (BitVec.toNat_ofNat _ _).trans (Nat.mod_eq_of_lt (Nat.lt_of_le_of_lt (Nat.min_le_right _ _) (by decide)))

end

/-- Settles O33: three bits hold every raw channel plus 1. -/
theorem channelIsRawPlusOne : Obligations.ChannelIsRawPlusOne :=
  interpret_channel_toNat

/-- Settles O34: the record's widths lose nothing of the three numbers, whose ranges follow from that of the tenths. -/
theorem temperatureInterpretation : Obligations.TemperatureInterpretation := by
  intro raw
  obtain ⟨htlo, hthi⟩ := interpretTemp_range raw.temp
  obtain ⟨hilo, hihi⟩ := tempIntPart_range htlo hthi
  rw [interpret_tempInt_toInt, interpret_tempFrac_toNat, interpret_tempTenths_toInt]
  refine ⟨fun hbig => ?above, fun hsmall => ?upTo, rfl, rfl, htlo, hthi, hilo, hihi, tempFracDigit_le _⟩
  case above => exact if_pos hbig
  case upTo => exact if_neg (Nat.not_lt.2 hsmall)

/-- Settles O36: 7 bits hold a humidity of at most 100, and the other two fields are copied. -/
theorem humidityClampedRestUnchanged : Obligations.HumidityClampedRestUnchanged := fun raw =>
  ⟨interpret_humidity_toNat raw, rfl, rfl⟩

/-! ## The channel filter -/

section
variable (r : Reading) (cfg : BitVec 8)

theorem filterChannel_eq :
    filterChannel r cfg = if r.channel.toNat = cfg.toNat then .reading r else .errChannel r.channel :=
  ite_not ..

theorem filterChannel_of_ne (hne : r.channel.toNat ≠ cfg.toNat) : filterChannel r cfg = .errChannel r.channel :=
  if_pos hne

theorem filterChannel_of_eq (heq : r.channel.toNat = cfg.toNat) : filterChannel r cfg = .reading r :=
  if_neg (not_not_intro heq)

end

/-- An interpreted channel is one of the wire format's `<1-4>` (R85). -/
theorem interpret_channel_range (raw : RawFields) :
    1 ≤ (interpret raw).channel.toNat ∧ (interpret raw).channel.toNat ≤ 4 := by
  have hraw : raw.channel.toNat < 4 := raw.channel.isLt
  rw [interpret_channel_toNat]
  omega

/-- Settles O37: the two sides of the filter's test; a configured channel outside 1..4 equals no interpreted one. -/
theorem channelFilterDecides : Obligations.ChannelFilterDecides := by
  refine ⟨fun r cfg => ⟨filterChannel_of_ne r cfg, filterChannel_of_eq r cfg⟩, fun raw cfg hcfg => ?_⟩
  exact filterChannel_of_ne _ cfg fun heq => hcfg (heq ▸ interpret_channel_range raw)

/-! ## A good frame -/

theorem isBit_params_iff (d : Duration) : IsBit params d ↔ InBitWindow d := by
  rw [IsBit, oneHit_iff, zeroHit_iff, InBitWindow, or_comm]

/-- The field sum of R42 is the value that extraction shifts together. -/
theorem fieldSum_eq_shiftBits (cells : List Duration) (o w : Nat) :
    fieldSum cells o w = shiftBits params (fieldCells cells ⟨o, w⟩) 0 := by
  rw [shiftBits_fieldCells, fieldSum]
  refine Finset.sum_congr rfl fun k _ => ?_
  simp only [← oneHit_iff, Bool.toNat, Bool.cond_eq_ite]

/-- A field's value fits the field's width (R81), so the raw field is the sum. -/
theorem toNat_ofNat_shiftBits_eq_fieldSum (cells : List Duration) (o w : Nat) :
    (BitVec.ofNat w (shiftBits params (fieldCells cells ⟨o, w⟩) 0)).toNat = fieldSum cells o w := by
  have hlt := shiftBits_lt params (fieldCells cells ⟨o, w⟩) 0
  rw [fieldCells_length, Nat.zero_add, Nat.one_mul] at hlt
  rw [BitVec.toNat_ofNat, Nat.mod_eq_of_lt hlt, fieldSum_eq_shiftBits]

/-- The raw fields of a frame as the sums of the field table (R39, R42). -/
theorem rawOf_params_toNat (cells : List Duration) :
    (rawOf params cells).id.toNat = fieldSum cells 0 8 ∧ (rawOf params cells).battery.toNat = fieldSum cells 8 1 ∧
      (rawOf params cells).channel.toNat = fieldSum cells 10 2 ∧
      (rawOf params cells).temp.toNat = fieldSum cells 12 12 ∧
      (rawOf params cells).humidity.toNat = fieldSum cells 28 8 :=
  ⟨toNat_ofNat_shiftBits_eq_fieldSum cells 0 8, toNat_ofNat_shiftBits_eq_fieldSum cells 8 1,
    toNat_ofNat_shiftBits_eq_fieldSum cells 10 2, toNat_ofNat_shiftBits_eq_fieldSum cells 12 12,
    toNat_ofNat_shiftBits_eq_fieldSum cells 28 8⟩

/-- A first bad duration is among the durations. -/
theorem FirstBad.exists_not_isBit {c : Params} {ds : List Duration} {e : Duration} (h : FirstBad c ds e) :
    ∃ d ∈ ds, ¬ IsBit c d := by
  obtain ⟨pre, post, rfl, -, hone, hzero⟩ := h
  exact ⟨e, by simp, by simp [IsBit, hone, hzero]⟩

theorem extractFields_of_bits {c : Params} {cells : List Duration}
    (hbits : ∀ p ∈ scannedPositions, IsBit c (cells.getD p 0)) : extractFields c cells = .ok (rawOf c cells) := by
  rcases extractFields_cases c cells with ⟨-, hok⟩ | ⟨e, hbad, -⟩
  · exact hok
  · obtain ⟨d, hd, hnot⟩ := hbad.exists_not_isBit
    obtain ⟨p, hp, rfl⟩ := List.mem_map.1 hd
    exact absurd (hbits p hp) hnot

/-- A good frame passes steps 1 and 2, so the channel filter alone decides (R91). -/
theorem decodeFn_of_bits {c : Params} {cells : List Duration}
    (hbits : ∀ p ∈ scannedPositions, IsBit c (cells.getD p 0)) (cfg : BitVec 8) :
    decodeFn c c.frameBits cells cfg = filterChannel (interpret (rawOf c cells)) cfg := by
  rw [decodeFn, if_neg (not_not_intro rfl), extractFields_of_bits hbits]

/-- Settles O32: the reading is the interpretation of the raw fields, each field a sum of the field table. -/
theorem goodFrameDecodesToItsFields : Obligations.GoodFrameDecodesToItsFields := by
  intro cells cfg hgood
  have hbits : ∀ p ∈ scannedPositions, IsBit params (cells.getD p 0) := fun p hp =>
    (isBit_params_iff _).2 (hgood p (mem_scannedPositions.1 hp))
  obtain ⟨hid, hbattery, hchannel, htemp, hhumidity⟩ := rawOf_params_toNat cells
  refine ⟨interpret (rawOf params cells), hid, hbattery, ?channel, ?tenths, ?int, ?frac, ?humidity, ?decoded⟩
  case channel => rw [interpret_channel_toNat, hchannel]
  case tenths => rw [interpret_tempTenths_toInt, interpretTemp, htemp]
  case int => rw [interpret_tempInt_toInt, interpret_tempTenths_toInt, tempIntPart]
  case frac => rw [interpret_tempFrac_toNat, interpret_tempTenths_toInt, tempFracDigit]
  case humidity => rw [interpret_humidity_toNat, hhumidity]
  case decoded => rw [← filterChannel_eq]; exact decodeFn_of_bits hbits cfg

end Sys2Proof.Machine
end

section
/-!
PROOF. The result port (45_result_port.md): the dump in every record that is written (R93), and ACK (R94).
-/

namespace Sys2Proof.Machine

/-! ## The dump in a written record -/

section
variable (r : ResultRecord) (s : State)

/-- The 6 bits of `dump_len` hold every stored length. -/
theorem ResultRecord.withDump_dumpLen_toNat : (r.withDump s).dumpLen.toNat = s.storedLen := by
  have hlen := s.storedLen_le
  show (BitVec.ofNat 6 s.storedLen).toNat = s.storedLen
  rw [BitVec.toNat_ofNat, Nat.mod_eq_of_lt (by omega)]

theorem ResultRecord.withDump_dumpWord (k : Fin 36) :
    (r.withDump s).dumpWord k = if k.val < s.storedLen then s.pbuf[k] else 0 :=
  (s.dumpCells_getElem k).trans (s.payload_getD k)

end

/-- Settles O39: the result of DECODE is written with its dump, whatever the payload decodes to. -/
theorem dumpCopiesThePayload : Obligations.DumpCopiesThePayload := by
  intro s
  refine ⟨decodeOp s, exec_decode s, ?_⟩
  rw [decodeOp, State.writeResult_res]
  exact ⟨ResultRecord.withDump_dumpLen_toNat _ s, ResultRecord.withDump_dumpWord _ s⟩

/-! ## ACK -/

@[simp] theorem exec_ack (s : State) : exec .ack s = .next s.clearFlags := rfl

/-- Settles O16: ACK's word stands alone in the ranges of R44, and ACK is `State.clearFlags`. -/
theorem ackConsumesTheResult : Obligations.AckConsumesTheResult := by
  refine ⟨?word, fun w hw => ?refused, exec_ack⟩
  case word =>
    obtain ⟨-, -, hack, -⟩ := refusedWordsAreReservedBits 0x600000000
    exact hack.2 (by decide)
  case refused =>
    obtain ⟨hrefused, -⟩ := refusedWordsAreReservedBits w
    exact hrefused.2 (.inr hw)

end Sys2Proof.Machine
end

section
/-!
PROOF. Refused words (60_exceptions.md R101): the step that meets one, and its frame.
-/

namespace Sys2Proof.Machine

variable {s : State} {w : TxnWord} {ws : List TxnWord}

/-- A word that does not decode is taken and rejected, whatever the reason. -/
theorem fetch_rejected {r : Reject} (hp : s.pending = w :: ws) (hw : decodeTxn w = .error r) :
    fetch s = .rejected r (s.setPending ws) := by
  simp only [fetch, hp, hw]

theorem step_rejected {r : Reject} (hp : s.pending = w :: ws) (hw : decodeTxn w = .error r) :
    step s = .next (s.setPending ws).markRefused := by
  rw [step, fetch_rejected hp hw]

/-- Setting the mark and taking a word touch different fields, so with the queue put back only the mark remains. -/
theorem State.setPending_markRefused_restore (s : State) (ws : List TxnWord) :
    (s.setPending ws).markRefused.setPending s.pending = s.markRefused := rfl

/-- Settles O44: by R44 the two ranges are those of the words that do not decode, and the step that meets such a word
takes it and sets the mark. -/
theorem refusedWordSetsTheMark : Obligations.RefusedWordSetsTheMark := by
  intro s w ws hp hrange
  obtain ⟨hreserved, -⟩ := refusedWordsAreReservedBits w
  exact ⟨_, step_rejected hp (hreserved.2 hrange), s.setPending_markRefused_restore ws⟩

end Sys2Proof.Machine
end

section
/-!
PROOF. RESET and launch (70_reset_and_hazards.md R113, R114).
-/

namespace Sys2Proof.Machine

@[simp] theorem exec_reset (s : State) : exec .reset s = .next s.applyReset := rfl

/-- The words of kind 00 stand below `2^33` and RESET's is the first of them, 0; any other is positive. -/
theorem decodeTxn_of_kind_reset {w : TxnWord} (hkind : w.toNat < 2 ^ 33) (hw : w ≠ 0) :
    decodeTxn w = .error .reservedBits := by
  have hpos : 0 < w.toNat := Nat.pos_of_ne_zero fun hzero => hw (BitVec.toNat_inj.1 hzero)
  obtain ⟨hrefused, -⟩ := refusedWordsAreReservedBits w
  exact hrefused.2 (.inl ⟨hpos, hkind⟩)

/-- Settles O11: RESET's word stands alone in the ranges of R44, and RESET is `State.applyReset`, whose fields are R113's
table. -/
theorem resetPutsResetValues : Obligations.ResetPutsResetValues := by
  refine ⟨?word, fun _ => decodeTxn_of_kind_reset, fun s => ⟨s.applyReset, exec_reset s, ?fields⟩⟩
  case word =>
    obtain ⟨-, hreset, -⟩ := refusedWordsAreReservedBits 0x000000000
    exact hreset.2 (by decide)
  case fields =>
    exact ⟨s.applyReset_prevValid, s.applyReset_fsm, s.applyReset_plen, s.applyReset_resValid, s.applyReset_resOverrun,
      s.applyReset_res, s.applyReset_refused, s.applyReset_cfgChannel, s.applyReset_counterResets, s.applyReset_pending⟩

/-- No payload is stored at launch, whatever the cells of `PBUF` hold (R17). -/
@[simp] theorem State.reset_payload : State.reset.payload = [] :=
  List.length_eq_zero_iff.1 State.reset.payload_length

/-- The state after RESET is the launch state with the fields that RESET leaves alone. `prev_level` is not compared,
because no level has been observed, nor are the cells of `PBUF`, because both payloads are empty. -/
theorem State.applyReset_agree_reset (s : State) :
    Agree s.applyReset { State.reset with
      refused := s.refused, cfgChannel := s.cfgChannel, pending := s.pending, counterResets := s.counterResets } where
  prevValid := s.applyReset_prevValid
  prevLevel hvalid := absurd hvalid (by simp)
  fsm := s.applyReset_fsm
  plen := s.applyReset_plen
  payload := s.applyReset_payload.trans State.reset_payload.symm
  resValid := s.applyReset_resValid
  resOverrun := s.applyReset_resOverrun
  res := s.applyReset_res
  refused := s.applyReset_refused
  cfgChannel := s.applyReset_cfgChannel
  pending := s.applyReset_pending
  counterResets := s.applyReset_counterResets

/-- Settles O12: `State.reset` is written with R114's values, and RESET leaves `S.refused` at the launch state's value. -/
theorem launchStateIsStateAfterReset : Obligations.LaunchStateIsStateAfterReset := by
  refine ⟨rfl, rfl, rfl, rfl, rfl, rfl, rfl, rfl, fun s hrefused => ⟨s.applyReset, exec_reset s, ?_⟩⟩
  have hagree := s.applyReset_agree_reset
  rw [hrefused] at hagree
  exact hagree

end Sys2Proof.Machine
end

section
/-!
PROOF. The encoder against the decoder (30_encoding.md R43 to R47): the decoder on a transaction word written from its
fields, the two round trips, the words as numbers, and the first matching row of a selector.
-/

namespace Sys2Proof

open Sys2Proof.Machine

/-! ## Transaction words from their fields -/

section
variable (l : BitVec 1) (v : Duration)

theorem decodeTxn_txnWord_reset :
    decodeTxn (txnWord 0b00#2 l v) = if l = 0 ∧ v = 0 then .ok .reset else .error .reservedBits := by
  simp [decodeTxn]

theorem decodeTxn_txnWord_poll : decodeTxn (txnWord 0b01#2 l v) = .ok (.poll (levelOfBit l) v) := by
  simp [decodeTxn]

theorem decodeTxn_txnWord_event : decodeTxn (txnWord 0b10#2 l v) = .ok (.event v (levelOfBit l)) := by
  simp [decodeTxn]

theorem decodeTxn_txnWord_ack :
    decodeTxn (txnWord 0b11#2 l v) = if l = 0 ∧ v = 0 then .ok .ack else .error .reservedBits := by
  simp [decodeTxn]

end

/-- The kind field has four values (R43). -/
theorem txnKind_cases (w : TxnWord) :
    txnKind w = 0b00#2 ∨ txnKind w = 0b01#2 ∨ txnKind w = 0b10#2 ∨ txnKind w = 0b11#2 := by
  generalize txnKind w = k
  revert k
  decide

/-! ## Round trips -/

/-- The frame state in which an arm can be taken (R47). -/
def Arm.state : Arm → FrameState
  | .idleSync | .idleStay => .pulseIdle
  | .preOk | .preAbandon => .preamble
  | .pulseOk | .pulseFail => .pulse
  | .dataEof | .dataBit | .dataFail => .data

/-- A selector takes an arm of its own state. -/
@[simp] theorem selectArm_state (c : Params) (f : FrameState) (p : Level) (d : Duration) :
    (selectArm (selector c f p d)).state = f := by
  cases f
  · rw [selectArm_pulseIdle]; split <;> rfl
  · rw [selectArm_preamble]; split <;> rfl
  · rw [selectArm_pulse]; split <;> rfl
  · rw [selectArm_data]; split <;> [rfl; split <;> rfl]

/-- The operands of an arm are well-formed exactly when the selector they form in the arm's state takes that arm. -/
theorem wellFormed_toInstr_iff (a : Arm) (d : Duration) (p : Level) :
    (a.toInstr d p).wellFormed = true ↔ selectArm (selector params a.state p d) = a := by
  cases a <;> simp only [Arm.toInstr, Arm.state, Instr.wellFormed, selectArm_pulseIdle, selectArm_preamble,
    selectArm_pulse, selectArm_data]
  case idleSync | idleStay => cases p <;> cases syncHit params d <;> decide
  case preOk | preAbandon => cases preHit params d <;> decide
  case pulseOk | pulseFail => cases syncHit params d <;> decide
  case dataEof | dataBit | dataFail => cases eofHit params d <;> cases bitHit params d <;> decide

/-- An arm's words are the selector of its state and its duration; an arm that does not read the previous level is
written, and read back, with another. -/
theorem encode_toInstr (a : Arm) (d : Duration) (p : Level) :
    ∃ q, a.toInstr d p = a.toInstr d q ∧ encode (a.toInstr d p) = .sel (selector params a.state q d) d := by
  cases a
  case idleSync | idleStay => exact ⟨p, rfl, rfl⟩
  all_goals exact ⟨.low, rfl, rfl⟩

theorem decodeWord_encode_toInstr (a : Arm) (d : Duration) (p : Level) (hwf : (a.toInstr d p).wellFormed = true) :
    decodeWord (encode (a.toInstr d p)) = .ok (a.toInstr d p) := by
  obtain ⟨q, hq, henc⟩ := encode_toInstr a d p
  rw [hq, wellFormed_toInstr_iff] at hwf
  rw [henc, hq, decodeWord, hwf, selectorPrev_selector]

/-- Settles O4: a transaction by its fields, an arm because its well-formedness is that its own selector takes it. -/
theorem encodedInstructionDecodesBack : Obligations.EncodedInstructionDecodesBack := by
  intro i hwf
  cases i with
  | reset => exact decodeTxn_txnWord_reset 0 0
  | poll l n => exact (decodeTxn_txnWord_poll _ n).trans (by rw [levelOfBit_levelBit])
  | event d l => exact (decodeTxn_txnWord_event _ d).trans (by rw [levelOfBit_levelBit])
  | ack => exact decodeTxn_txnWord_ack 0 0
  | idleSync d p => exact decodeWord_encode_toInstr .idleSync d p hwf
  | idleStay d p => exact decodeWord_encode_toInstr .idleStay d p hwf
  | preOk d => exact decodeWord_encode_toInstr .preOk d .low hwf
  | preAbandon d => exact decodeWord_encode_toInstr .preAbandon d .low hwf
  | pulseOk d => exact decodeWord_encode_toInstr .pulseOk d .low hwf
  | pulseFail d => exact decodeWord_encode_toInstr .pulseFail d .low hwf
  | dataEof d => exact decodeWord_encode_toInstr .dataEof d .low hwf
  | dataBit d => exact decodeWord_encode_toInstr .dataBit d .low hwf
  | dataFail d => exact decodeWord_encode_toInstr .dataFail d .low hwf
  | decode => rfl

/-- A word with reserved bits decodes only where they are 0 (R44). -/
theorem reserved_zero_of_ok {l : BitVec 1} {v : Duration} {i j : Instr}
    (h : (if l = 0 ∧ v = 0 then Except.ok i else Except.error Reject.reservedBits) = .ok j) : l = 0 ∧ v = 0 ∧ i = j := by
  split at h
  case isTrue hzero =>
    cases h
    exact ⟨hzero.1, hzero.2, rfl⟩
  case isFalse => cases h

/-- Settles O5: by the word's kind; a POLL or EVENT word is its fields, and a RESET or ACK word decodes only with the
other fields 0. -/
theorem decodedWordEncodesBack : Obligations.DecodedWordEncodesBack := by
  intro w i hdec
  have hw := txnWord_fields w
  rcases txnKind_cases w with hk | hk | hk | hk <;> rw [hk] at hw <;> rw [← hw] at hdec
  · obtain ⟨hl, hv, rfl⟩ := reserved_zero_of_ok ((decodeTxn_txnWord_reset _ _).symm.trans hdec)
    rw [← hw, hl, hv, encode]
  · rw [decodeTxn_txnWord_poll] at hdec
    cases hdec
    rw [encode, levelBit_levelOfBit, hw]
  · rw [decodeTxn_txnWord_event] at hdec
    cases hdec
    rw [encode, levelBit_levelOfBit, hw]
  · obtain ⟨hl, hv, rfl⟩ := reserved_zero_of_ok ((decodeTxn_txnWord_ack _ _).symm.trans hdec)
    rw [← hw, hl, hv, encode]

/-! ## The words as numbers -/

/-- A transaction word is the number that its fields add up to, each at its weight (R51). -/
theorem txnWord_eq_ofNat (k : BitVec 2) (l : BitVec 1) (v : Duration) :
    txnWord k l v = BitVec.ofNat 35 (k.toNat * 2 ^ 33 + l.toNat * 2 ^ 32 + v.toNat) := by
  rw [← toNat_txnWord, BitVec.ofNat_toNat, BitVec.setWidth_eq]

/-- Settles O2: `txnWord_eq_ofNat` at each kind and level. -/
theorem transactionWordFormulas : Obligations.TransactionWordFormulas :=
  ⟨congrArg _ (txnWord_eq_ofNat 0b00#2 0 0), congrArg _ (txnWord_eq_ofNat 0b11#2 0 0),
    fun n => ⟨congrArg _ (txnWord_eq_ofNat 0b01#2 0 n), congrArg _ (txnWord_eq_ofNat 0b01#2 1 n)⟩,
    fun d => ⟨congrArg _ (txnWord_eq_ofNat 0b10#2 0 d), congrArg _ (txnWord_eq_ofNat 0b10#2 1 d)⟩⟩

/-- Settles O1: the six words that decode are those of their instructions, and the four others stand in the two ranges of
refused words. -/
theorem sampleTransactionWordsDecode : Obligations.SampleTransactionWordsDecode := by
  have hback (i : Instr) := encodedInstructionDecodesBack i
  have hrefused (w : TxnWord) := (refusedWordsAreReservedBits w).1.2
  exact ⟨hback .reset rfl, hback .ack rfl, hback (.event 500 .low) rfl, hback (.event 4000 .high) rfl,
    hback (.poll .low 0) rfl, hback (.poll .high 4294967295) rfl, hrefused _ (.inl (by decide)),
    hrefused _ (.inl (by decide)), hrefused _ (.inr (by decide)), hrefused _ (.inr (by decide))⟩

/-! ## The priority table -/

/-- The arm of a selector is that of the first row it matches (R47). -/
theorem armTable_find?_eq_some (v : Selector) :
    ∃ r, armTable.find? (rowHits v) = some r ∧ selectArm v = r.arm := by
  obtain ⟨r, hr⟩ := Option.isSome_iff_exists.1 (armTable_total v)
  exact ⟨r, hr, by rw [selectArm, hr]; rfl⟩

theorem rowHits_iff (v : Selector) (r : ArmRow) : rowHits v r = true ↔ v &&& r.mask = r.pattern :=
  beq_iff_eq

/-- Settles O6: the row that the search finds is one of the nine, and the search passes over those before it. -/
theorem selectorTakesFirstMatchingRow : Obligations.SelectorTakesFirstMatchingRow := by
  intro v
  obtain ⟨r, hr, harm⟩ := armTable_find?_eq_some v
  obtain ⟨hhit, k, hk, hrow, hbefore⟩ := List.find?_eq_some_iff_getElem.1 hr
  refine ⟨⟨k, hk⟩, r, List.getElem?_eq_some_iff.2 ⟨hk, hrow⟩, (rowHits_iff v r).1 hhit, harm, ?_⟩
  intro j hj q hq hmatch
  obtain ⟨hjlen, rfl⟩ := List.getElem?_eq_some_iff.1 hq
  have hmiss := hbefore j.val hj
  rw [(rowHits_iff v _).2 hmatch] at hmiss
  exact absurd hmiss (by decide)

end Sys2Proof
end

section
/-!
PROOF. What an instruction and a step can do, said once: every instruction but the transactions and DECODE has one of the
effects of the frame synchronizer's arms (42_frame_synchronizer.md R66 to R75). From it: nothing stops the block, and what
no instruction and no step touches.
-/

namespace Sys2Proof.Machine

/-! ## The effects of the arms -/

/-- What an arm can do to the state it is performed in. -/
inductive ArmEffect (s : State) : State → Prop where
  | skip : ArmEffect s s
  | goto (f : FrameState) : ArmEffect s (s.setFsm f)
  | discard : ArmEffect s (s.clearPayload.setFsm .pulseIdle)
  | append (d : Duration) : ArmEffect s ((s.appendDuration d).setFsm .pulse)
  | finish (hdata : s.fsm = .data) (hsome : s.plen ≠ 0) : ArmEffect s ((decodeOp s).clearPayload.setFsm .pulseIdle)

/-- An arm given as an instruction is the arm performed (R65). -/
theorem exec_toInstr (a : Arm) (d : Duration) (p : Level) (s : State) :
    exec (a.toInstr d p) s = .next (performArm a d p s) := by
  cases a <;> rfl

/-- An arm whose guard fails does nothing (log entry 10). -/
theorem ArmEffect.guarded {c : Prop} [Decidable c] {s t : State} (ht : ArmEffect s t) :
    ArmEffect s (if c then t else s) := by
  split
  · exact ht
  · exact .skip

theorem armDataEof_effect (d : Duration) (s : State) : ArmEffect s (armDataEof d s) := by
  unfold armDataEof
  split
  case isTrue hguard =>
    split
    case isTrue hsome => exact .finish hguard.1 hsome
    case isFalse => exact .discard
  case isFalse => exact .skip

theorem performArm_effect (a : Arm) (d : Duration) (p : Level) (s : State) : ArmEffect s (performArm a d p s) := by
  cases a with
  | idleSync => exact .guarded (.goto _)
  | idleStay => exact .skip
  | preOk => exact .guarded (.goto _)
  | preAbandon => exact .guarded (.goto _)
  | pulseOk => exact .guarded (.goto _)
  | pulseFail => exact .guarded .discard
  | dataEof => exact armDataEof_effect d s
  | dataBit => exact .guarded (.append d)
  | dataFail => exact .guarded .discard

theorem deliverEvent_effect (d : Duration) (l : Level) (s : State) : ArmEffect s (deliverEvent d l s) :=
  performArm_effect _ d l.flip s

/-- An arm touches the frame state, the payload and the result port only (R57, R79). -/
theorem ArmEffect.frame {s t : State} (h : ArmEffect s t) :
    t.refused = s.refused ∧ t.cfgChannel = s.cfgChannel ∧ t.pending = s.pending ∧
      t.counterResets = s.counterResets := by
  cases h <;> exact ⟨rfl, rfl, rfl, rfl⟩

/-! ## Instructions, inverted -/

/-- Every instruction but POLL, RESET, ACK and DECODE has the effect of an arm. -/
theorem exec_cases (i : Instr) (s : State) :
    (∃ t, exec i s = .next t ∧ ArmEffect s t) ∨ (∃ l n, i = .poll l n) ∨ i = .reset ∨ i = .ack ∨ i = .decode := by
  have harm (a : Arm) (d : Duration) (p : Level) : ∃ t, exec (a.toInstr d p) s = .next t ∧ ArmEffect s t :=
    ⟨_, exec_toInstr a d p s, performArm_effect a d p s⟩
  cases i with
  | reset => exact .inr (.inr (.inl rfl))
  | poll l n => exact .inr (.inl ⟨l, n, rfl⟩)
  | event d l => exact .inl ⟨_, exec_event d l s, deliverEvent_effect d l s⟩
  | ack => exact .inr (.inr (.inr (.inl rfl)))
  | idleSync d p => exact .inl (harm .idleSync d p)
  | idleStay d p => exact .inl (harm .idleStay d p)
  | preOk d => exact .inl (harm .preOk d .low)
  | preAbandon d => exact .inl (harm .preAbandon d .low)
  | pulseOk d => exact .inl (harm .pulseOk d .low)
  | pulseFail d => exact .inl (harm .pulseFail d .low)
  | dataEof d => exact .inl (harm .dataEof d .low)
  | dataBit d => exact .inl (harm .dataBit d .low)
  | dataFail d => exact .inl (harm .dataFail d .low)
  | decode => exact .inr (.inr (.inr (.inr rfl)))

/-- The state after an instruction is determined. -/
theorem eq_of_exec_eq {i : Instr} {s t u : State} (hu : exec i s = .next u) (ht : exec i s = .next t) : t = u := by
  rw [hu] at ht
  cases ht
  rfl

theorem pollOp_frame (l : Level) (n : Duration) (s : State) :
    (pollOp l n s).refused = s.refused ∧ (pollOp l n s).cfgChannel = s.cfgChannel ∧
      (pollOp l n s).pending = s.pending := by
  rcases pollOp_cases l s n with ⟨-, hp⟩ | ⟨-, -, hp⟩ | ⟨-, -, hp⟩ <;> rw [hp]
  · exact ⟨rfl, rfl, rfl⟩
  · exact ⟨rfl, rfl, rfl⟩
  · obtain ⟨hrefused, hchannel, hpending, -⟩ := (deliverEvent_effect n l (s.strobeCounter.setPrevLevel l)).frame
    exact ⟨hrefused, hchannel, hpending⟩

/-- No instruction writes `S.refused`, `CFG_CHANNEL` or the words still to issue. -/
theorem exec_frame {i : Instr} {s t : State} (h : exec i s = .next t) :
    t.refused = s.refused ∧ t.cfgChannel = s.cfgChannel ∧ t.pending = s.pending := by
  rcases exec_cases i s with ⟨u, hu, heffect⟩ | ⟨l, n, rfl⟩ | rfl | rfl | rfl
  · obtain ⟨hrefused, hchannel, hpending, -⟩ := heffect.frame
    cases eq_of_exec_eq hu h; exact ⟨hrefused, hchannel, hpending⟩
  · cases eq_of_exec_eq (exec_poll l n s) h; exact pollOp_frame l n s
  · cases eq_of_exec_eq (exec_reset s) h; exact ⟨rfl, rfl, rfl⟩
  · cases eq_of_exec_eq (exec_ack s) h; exact ⟨rfl, rfl, rfl⟩
  · cases eq_of_exec_eq (exec_decode s) h; exact ⟨rfl, rfl, rfl⟩

/-! ## Steps -/

theorem step_yield {s : State} (hp : s.pending = []) : step s = .next s := by
  rw [step, fetch, hp]

theorem step_run {s : State} {w : TxnWord} {ws : List TxnWord} {i : Instr} (hp : s.pending = w :: ws)
    (hw : decodeTxn w = .ok i) : step s = exec i (s.setPending ws) := by
  simp only [step, fetch, hp, hw]

/-- One step, inverted: the host yields, or a word is taken and is refused or runs. -/
theorem step_outcome (s : State) :
    (s.pending = [] ∧ step s = .next s) ∨
      ∃ w ws, s.pending = w :: ws ∧
        (step s = .next (s.setPending ws).markRefused ∨ ∃ i, step s = exec i (s.setPending ws)) := by
  cases hp : s.pending with
  | nil => exact .inl ⟨rfl, step_yield hp⟩
  | cons w ws =>
    refine .inr ⟨w, ws, rfl, ?_⟩
    cases hw : decodeTxn w with
    | error r => exact .inl (step_rejected hp hw)
    | ok i => exact .inr ⟨i, step_run hp hw⟩

/-- Settles O45: `step_yield`. -/
theorem yieldChangesNothing : Obligations.YieldChangesNothing := fun _ => step_yield

/-- Settles O43: taking the word is `State.setPending`. -/
theorem stepRunsDecodedInstruction : Obligations.StepRunsDecodedInstruction := fun _ _ _ _ => step_run

theorem exec_continues (i : Instr) (s : State) : Continues (exec i s) := by
  rcases exec_cases i s with ⟨u, hu, -⟩ | ⟨l, n, rfl⟩ | rfl | rfl | rfl
  · exact ⟨u, hu⟩
  · exact ⟨_, exec_poll l n s⟩
  · exact ⟨_, exec_reset s⟩
  · exact ⟨_, exec_ack s⟩
  · exact ⟨_, exec_decode s⟩

/-- Settles O46: a step yields, marks a refused word, or is an instruction. -/
theorem nothingStopsTheBlock : Obligations.NothingStopsTheBlock := by
  refine ⟨exec_continues, fun s => ?_⟩
  rcases step_outcome s with ⟨-, hs⟩ | ⟨w, ws, -, hs | ⟨i, hs⟩⟩
  · exact ⟨s, hs⟩
  · exact ⟨_, hs⟩
  · rw [hs]; exact exec_continues i _

/-- A step, seen from the fields that no instruction writes: the mark is set or kept, the channel is kept, and the queue
loses its first word. -/
theorem step_frame {s t : State} (h : step s = .next t) :
    (t.refused = true ∨ t.refused = s.refused) ∧ t.cfgChannel = s.cfgChannel ∧ t.pending = s.pending.tail := by
  rcases step_outcome s with ⟨hp, hs⟩ | ⟨w, ws, hp, hs | ⟨i, hs⟩⟩ <;> rw [hs] at h <;> rw [hp]
  · cases h; exact ⟨.inr rfl, rfl, hp⟩
  · cases h; exact ⟨.inl rfl, rfl, rfl⟩
  · obtain ⟨hrefused, hchannel, hpending⟩ := exec_frame h
    exact ⟨.inr hrefused, hchannel, hpending⟩

/-- Settles O47: `exec_frame` and `step_frame` at the mark. -/
theorem refusedMarkIsNeverCleared : Obligations.RefusedMarkIsNeverCleared := by
  refine ⟨rfl, fun i s t h => (exec_frame h).1, fun s t h hmark => ?_⟩
  obtain ⟨hset | hkept, -⟩ := step_frame h
  · exact hset
  · rw [hkept, hmark]

/-- Settles O48: `step_frame` at the channel and the queue. -/
theorem stepKeepsChannelAndWordOrder : Obligations.StepKeepsChannelAndWordOrder := fun _ _ h => (step_frame h).2

/-! ## The counter's strobe -/

/-- A first poll and a poll that sees a level change strobe once (40_sampler.md R53, R55). -/
theorem pollOp_counterResets (l : Level) (n : Duration) (s : State) :
    (s.prevValid = false ∨ l ≠ s.prevLevel → (pollOp l n s).counterResets = s.counterResets + 1) ∧
      (¬ (s.prevValid = false ∨ l ≠ s.prevLevel) → (pollOp l n s).counterResets = s.counterResets) := by
  rcases pollOp_cases l s n with ⟨hfirst, hp⟩ | ⟨hvalid, hsame, hp⟩ | ⟨-, hedge, hp⟩ <;> rw [hp]
  · exact ⟨fun _ => rfl, fun hnot => absurd (.inl hfirst) hnot⟩
  · refine ⟨fun hstrobe => ?_, fun _ => rfl⟩
    rcases hstrobe with hfirst | hedge
    · exact absurd (hvalid.symm.trans hfirst) (by decide)
    · exact absurd hsame hedge
  · obtain ⟨-, -, -, hcount⟩ := (deliverEvent_effect n l (s.strobeCounter.setPrevLevel l)).frame
    exact ⟨fun _ => hcount, fun hnot => absurd (.inr hedge) hnot⟩

/-- Settles O17: POLL by its three cases, and no other instruction touches the count. -/
theorem counterStrobedByPollOnly : Obligations.CounterStrobedByPollOnly := by
  refine ⟨fun s t l n h => ?poll, fun s t i hnotPoll h => ?other⟩
  case poll => cases eq_of_exec_eq (exec_poll l n s) h; exact pollOp_counterResets l n s
  case other =>
    rcases exec_cases i s with ⟨u, hu, heffect⟩ | ⟨l, n, rfl⟩ | rfl | rfl | rfl
    · obtain ⟨-, -, -, hcount⟩ := heffect.frame
      cases eq_of_exec_eq hu h; exact hcount
    · exact absurd rfl (hnotPoll l n)
    · cases eq_of_exec_eq (exec_reset s) h; rfl
    · cases eq_of_exec_eq (exec_ack s) h; rfl
    · cases eq_of_exec_eq (exec_decode s) h; rfl

/-! ## What the host reads -/

/-- An arm leaves what the host reads, unless it finishes a frame, and then the host reads what DECODE writes. -/
theorem ArmEffect.view {s t : State} (h : ArmEffect s t) :
    t.view = s.view ∨ (s.fsm = .data ∧ s.plen ≠ 0 ∧ t.view = (decodeOp s).view) := by
  cases h with
  | skip => exact .inl rfl
  | goto => exact .inl rfl
  | discard => exact .inl rfl
  | append => exact .inl rfl
  | finish hdata hsome => exact .inr ⟨hdata, hsome, rfl⟩

/-- The event of a poll starts in a state with the poll's payload and result port. -/
theorem pollOp_view (l : Level) (n : Duration) (s : State) :
    (pollOp l n s).view = s.view ∨ (s.fsm = .data ∧ s.plen ≠ 0 ∧ (pollOp l n s).view = (decodeOp s).view) := by
  rcases pollOp_cases l s n with ⟨-, hp⟩ | ⟨-, -, hp⟩ | ⟨-, -, hp⟩ <;> rw [hp]
  · exact .inl rfl
  · exact .inl rfl
  · exact (deliverEvent_effect n l (s.strobeCounter.setPrevLevel l)).view

/-- Settles O40: of the instructions left, each has the effect of an arm, POLL through the event it delivers. -/
theorem resultPortWrittenByDecodeOnly : Obligations.ResultPortWrittenByDecodeOnly := by
  intro s t i hreset hack hdecode h
  have hview : t.view = s.view ∨ (s.fsm = .data ∧ s.plen ≠ 0 ∧ t.view = (decodeOp s).view) := by
    rcases exec_cases i s with ⟨u, hu, heffect⟩ | ⟨l, n, rfl⟩ | hi | hi | hi
    · cases eq_of_exec_eq hu h; exact heffect.view
    · cases eq_of_exec_eq (exec_poll l n s) h; exact pollOp_view l n s
    · exact absurd hi hreset
    · exact absurd hi hack
    · exact absurd hi hdecode
  exact hview.imp_right fun ⟨hdata, hsome, hread⟩ => ⟨hdata, hsome, decodeOp s, exec_decode s, hread⟩

end Sys2Proof.Machine
end

section
/-!
PROOF. What a decode failure reports (44_field_extractor.md R83, R84): the length, or the duration at the lowest scanned
position that is no bit. And the temperature's 12-bit form (90_conflicts.md C8).
-/

namespace Sys2Proof.Machine

/-- Settles O29: `decodeFn_of_ne_frameBits`, where the machine's frame has 36 bits. -/
theorem wrongLengthReported : Obligations.WrongLengthReported :=
  ⟨fun _ _ cells cfg hlen => decodeFn_of_ne_frameBits hlen cells cfg,
    fun _ cells cfg hlen => decodeFn_of_ne_frameBits (c := params) hlen cells cfg⟩

/-! ## The first bad duration -/

section
variable {c : Params} {ds : List Duration} {e : Duration}

/-- The first bad duration is among the durations. -/
theorem FirstBad.mem (h : FirstBad c ds e) : e ∈ ds := by
  obtain ⟨pre, post, rfl, -⟩ := h
  exact List.mem_append_right _ List.mem_cons_self

theorem FirstBad.not_isBit (h : FirstBad c ds e) : ¬ IsBit c e := by
  obtain ⟨-, -, -, -, hone, hzero⟩ := h
  simp [IsBit, hone, hzero]

/-- There is one first bad duration: extraction can stop at one only. -/
theorem FirstBad.unique {e' : Duration} (h : FirstBad c ds e) (h' : FirstBad c ds e') : e = e' := by
  have hstop := (extractBits_of_firstBad h 0).symm.trans (extractBits_of_firstBad h' 0)
  cases hstop
  rfl

theorem extractFields_of_firstBad {cells : List Duration}
    (h : FirstBad c (scannedPositions.map (fun p => cells.getD p 0)) e) : extractFields c cells = .error e := by
  rcases extractFields_cases c cells with ⟨hbits, -⟩ | ⟨e', hbad, herror⟩
  · obtain ⟨p, hp, rfl⟩ := List.mem_map.1 h.mem
    exact absurd (hbits p hp) h.not_isBit
  · rw [herror, h.unique hbad]

/-- The error of an extraction is the duration at a scanned position, and no bit. -/
theorem extractFields_error {cells : List Duration} (h : extractFields c cells = .error e) :
    ∃ p, Scanned p ∧ cells.getD p 0 = e ∧ ¬ IsBit c e := by
  rcases extractFields_cases c cells with ⟨-, hok⟩ | ⟨e', hbad, herror⟩
  · rw [hok] at h
    cases h
  · rw [herror] at h
    cases h
    obtain ⟨p, hp, hcell⟩ := List.mem_map.1 hbad.mem
    exact ⟨p, mem_scannedPositions.1 hp, hcell, hbad.not_isBit⟩

/-- The fields are scanned in ascending positions (R84). -/
theorem scannedPositions_sorted : scannedPositions.Pairwise (· < ·) := by decide

/-- Scanning meets the lowest bad position first. -/
theorem firstBad_of_lowest {cells : List Duration} {p : Nat} (hp : p ∈ scannedPositions)
    (hbad : ¬ IsBit c (cells.getD p 0)) (hbelow : ∀ q ∈ scannedPositions, q < p → IsBit c (cells.getD q 0)) :
    FirstBad c (scannedPositions.map (fun p => cells.getD p 0)) (cells.getD p 0) := by
  obtain ⟨pre, post, hsplit⟩ := List.append_of_mem hp
  obtain ⟨hone, hzero⟩ := not_or.1 hbad
  have hsorted := scannedPositions_sorted
  rw [hsplit] at hsorted hbelow ⊢
  obtain ⟨-, -, hascending⟩ := List.pairwise_append.1 hsorted
  refine ⟨pre.map (fun p => cells.getD p 0), post.map (fun p => cells.getD p 0), by simp, ?_,
    Bool.eq_false_iff.2 hone, Bool.eq_false_iff.2 hzero⟩
  intro d hd
  obtain ⟨q, hq, rfl⟩ := List.mem_map.1 hd
  exact hbelow q (List.mem_append_left _ hq) (hascending q hq p List.mem_cons_self)

end

/-- An extraction that stops decides the decode, whatever the channel (R84, R102). -/
theorem decodeFn_of_error {c : Params} {cells : List Duration} {e : Duration} (h : extractFields c cells = .error e)
    (cfg : BitVec 8) : decodeFn c c.frameBits cells cfg = .errRange e := by
  rw [decodeFn, if_neg (not_not_intro rfl), h]

/-- Settles O30: the lowest bad scanned position holds the first bad duration of the scan. -/
theorem lowestBadScannedDurationReported : Obligations.LowestBadScannedDurationReported := by
  intro cells cfg p hp hbad hbelow
  have hfirst : FirstBad params (scannedPositions.map (fun p => cells.getD p 0)) (cells.getD p 0) :=
    firstBad_of_lowest (mem_scannedPositions.2 hp) (mt (isBit_params_iff _).1 hbad) fun q hq hlt =>
      (isBit_params_iff _).2 (hbelow q hlt (mem_scannedPositions.1 hq))
  exact decodeFn_of_error (extractFields_of_firstBad hfirst) cfg

/-! ## The temperature's 12-bit form -/

/-- Settles O35: a value of the range is a raw value up to 2048, or a negative one 4096 below its raw value; -2048 is
outside `interpretTemp_range`. -/
theorem temperatureRoundTrip : Obligations.TemperatureRoundTrip := by
  refine ⟨fun v hlo hhi => ?roundTrip, fun raw hraw => ?noForm⟩
  case roundTrip =>
    have hraw : ((BitVec.ofInt 12 v).toNat : Int) = v % 4096 := by
      rw [BitVec.toNat_ofInt, Int.toNat_of_nonneg (Int.emod_nonneg _ (by decide))]
      rfl
    unfold interpretTemp
    split <;> omega
  case noForm =>
    obtain ⟨hlo, -⟩ := interpretTemp_range raw
    omega

end Sys2Proof.Machine
end

section
/-!
PROOF. The record that DECODE writes (45_result_port.md R92; 30_encoding.md R48, R49) and what the rules allow in it
(60_exceptions.md R99): every step keeps the result port legal.
-/

namespace Sys2Proof.Machine

/-! ## The records of the decode outcomes -/

theorem recordOf_errLength_errValue {len : Nat} (hlen : len < 2 ^ 32) :
    (recordOf (.errLength len)).errValue.toNat = len :=
  (BitVec.toNat_ofNat len 32).trans (Nat.mod_eq_of_lt hlen)

theorem recordOf_errChannel_errValue (ch : BitVec 3) : (recordOf (.errChannel ch)).errValue.toNat = ch.toNat := by
  have hch := ch.isLt
  exact (BitVec.toNat_setWidth 32 ch).trans (Nat.mod_eq_of_lt (by omega))

/-- An error's record holds no part of a reading (R49). -/
theorem recordOf_errLength_noReading (len : Nat) : (recordOf (.errLength len)).NoReading :=
  ⟨rfl, rfl, rfl, rfl, rfl, rfl, rfl⟩

theorem recordOf_errRange_noReading (d : Duration) : (recordOf (.errRange d)).NoReading :=
  ⟨rfl, rfl, rfl, rfl, rfl, rfl, rfl⟩

theorem recordOf_errChannel_noReading (ch : BitVec 3) : (recordOf (.errChannel ch)).NoReading :=
  ⟨rfl, rfl, rfl, rfl, rfl, rfl, rfl⟩

theorem decodeOp_res (s : State) :
    (decodeOp s).res = (recordOf (decodeFn params s.plen.toNat s.payload s.cfgChannel)).withDump s := rfl

/-- Settles O38: DECODE is `State.writeResult`, and the four outcomes of `decodeFn_params_cases` have the records of
`recordOf`. -/
theorem decodeWritesTheResultPort : Obligations.DecodeWritesTheResultPort := by
  intro s
  refine ⟨decodeOp s, exec_decode s, rfl, Bool.or_eq_true_iff, ?record⟩
  have hlt := s.plen_lt
  rw [decodeOp_res]
  rcases decodeFn_params_cases s.plen.toNat s.payload s.cfgChannel with
    ⟨-, h⟩ | ⟨d, -, -, h⟩ | ⟨raw, -, -, -, h⟩ | ⟨raw, -, -, -, h⟩ <;> rw [h]
  · exact ⟨rfl, recordOf_errLength_errValue (by omega), recordOf_errLength_noReading s.plen.toNat⟩
  · exact ⟨rfl, rfl, recordOf_errRange_noReading d⟩
  · exact ⟨rfl, recordOf_errChannel_errValue _, recordOf_errChannel_noReading (interpret raw).channel⟩
  · exact ⟨rfl, rfl, rfl, rfl, rfl, rfl, rfl, rfl, rfl⟩

/-! ## The result port is legal -/

variable {s t : State}

theorem State.storedLen_of_frame (hlen : s.plen.toNat = 36) : s.storedLen = 36 := by
  rw [State.storedLen, hlen]
  rfl

theorem withDump_dumpLen_of_frame (r : ResultRecord) (hlen : s.plen.toNat = 36) : (r.withDump s).dumpLen = 36 :=
  BitVec.eq_of_toNat_eq ((r.withDump_dumpLen_toNat s).trans (State.storedLen_of_frame hlen))

/-- The stored cells are those of the payload (I2). -/
theorem State.Inv.payload_getD_range (h : s.Inv) {k : Nat} (hk : k < s.storedLen) :
    800 ≤ (s.payload.getD k 0).toNat ∧ (s.payload.getD k 0).toNat ≤ 2150 := by
  have hlen : k < s.payload.length := by rwa [State.payload_length]
  rw [List.getD_eq_getElem _ _ hlen]
  exact h.cells_in_range _ (List.getElem_mem hlen)

/-- A stored duration that is no bit lies between the two bit windows (60_exceptions.md R99). -/
theorem State.Inv.error_range (h : s.Inv) (hlen : s.plen.toNat = 36) {d : Duration}
    (herror : extractFields params s.payload = .error d) : 1101 ≤ d.toNat ∧ d.toNat ≤ 1649 := by
  obtain ⟨p, hscanned, rfl, hnot⟩ := extractFields_error herror
  have hp : p < s.storedLen := by
    rw [State.storedLen_of_frame hlen]
    unfold Scanned at hscanned
    omega
  have hcell := h.payload_getD_range hp
  rw [isBit_params_iff, InBitWindow] at hnot
  omega

/-- What DECODE of a non-empty payload writes, kind by kind. -/
theorem decodeOp_fieldsOk (h : s.Inv) (hsome : s.plen ≠ 0) : (decodeOp s).res.FieldsOk s.cfgChannel := by
  have hlt := s.plen_lt
  have hpos : s.plen.toNat ≠ 0 := fun hzero => hsome (BitVec.eq_of_toNat_eq hzero)
  rw [decodeOp_res]
  rcases decodeFn_params_cases s.plen.toNat s.payload s.cfgChannel with
    ⟨hlen, hdec⟩ | ⟨d, hlen, herror, hdec⟩ | ⟨raw, hlen, -, hchannel, hdec⟩ | ⟨raw, hlen, -, hchannel, hdec⟩ <;> rw [hdec]
  · have hvalue : ((recordOf (.errLength s.plen.toNat)).withDump s).errValue.toNat = s.plen.toNat :=
      recordOf_errLength_errValue (by omega)
    refine ⟨recordOf_errLength_noReading s.plen.toNat, ?_⟩
    rw [hvalue, ResultRecord.withDump_dumpLen_toNat]
    exact ⟨hlen, by omega, by omega, rfl⟩
  · obtain ⟨hlo, hhi⟩ := h.error_range hlen herror
    exact ⟨recordOf_errRange_noReading d, hlo, hhi, withDump_dumpLen_of_frame _ hlen⟩
  · obtain ⟨hlo, hhi⟩ := interpret_channel_range raw
    have hvalue : ((recordOf (.errChannel (interpret raw).channel)).withDump s).errValue.toNat = _ :=
      recordOf_errChannel_errValue _
    refine ⟨recordOf_errChannel_noReading (interpret raw).channel, ?_⟩
    rw [hvalue]
    exact ⟨hlo, hhi, hchannel, withDump_dumpLen_of_frame _ hlen⟩
  · obtain ⟨hlo, hhi⟩ := interpret_channel_range raw
    obtain ⟨-, -, hint, hfrac, htlo, hthi, -⟩ := temperatureInterpretation raw
    obtain ⟨hhumidity, -⟩ := humidityClampedRestUnchanged raw
    exact ⟨rfl, withDump_dumpLen_of_frame _ hlen, hchannel, hlo, hhi, htlo, hthi, hint, hfrac,
      hhumidity.trans_le (Nat.min_le_right _ _)⟩

/-- The dump of a record written from a state that meets I2. -/
theorem State.Inv.withDump_dumpOk (h : s.Inv) (r : ResultRecord) : (r.withDump s).DumpOk := by
  intro k
  rw [ResultRecord.withDump_dumpLen_toNat]
  refine ⟨fun hk => ?stored, fun hk => ?beyond⟩
  case stored =>
    have hword : (r.withDump s).dumpWord k = s.payload.getD k.val 0 := s.dumpCells_getElem k
    rw [hword]
    exact h.payload_getD_range hk
  case beyond => rw [ResultRecord.withDump_dumpWord, if_neg (Nat.not_lt.2 hk)]

theorem recordOf_kind_ne_none (r : DecodeResult) : (recordOf r).kind ≠ .none := by
  cases r <;> simp [recordOf]

theorem decodeOp_portOk (h : s.Inv) (hsome : s.plen ≠ 0) : (decodeOp s).PortOk where
  fields := decodeOp_fieldsOk h hsome
  dump := h.withDump_dumpOk _
  valid_result _ := recordOf_kind_ne_none _

/-! ## What else can happen to the result port -/

theorem ResultRecord.zero_dumpOk : ResultRecord.zero.DumpOk := fun _ =>
  ⟨fun hk => absurd hk (Nat.not_lt_zero _), fun _ => by simp [ResultRecord.dumpWord, ResultRecord.zero]⟩

/-- The all-zero record is legal while it is not valid. -/
theorem State.PortOk.of_zero (hres : s.res = ResultRecord.zero) (hvalid : s.resValid = false) : s.PortOk where
  fields := by rw [hres]; rfl
  dump := by rw [hres]; exact ResultRecord.zero_dumpOk
  valid_result hv := by rw [hvalid] at hv; cases hv

/-- A record that stays is as legal as before, and no more a valid one. -/
theorem State.PortOk.of_same (h : s.PortOk) (hres : t.res = s.res) (hchannel : t.cfgChannel = s.cfgChannel)
    (hvalid : t.resValid = true → s.resValid = true) : t.PortOk where
  fields := by rw [hres, hchannel]; exact h.fields
  dump := by rw [hres]; exact h.dump
  valid_result hv := by rw [hres]; exact h.valid_result (hvalid hv)

theorem State.PortOk.setPending (h : s.PortOk) (ws : List TxnWord) : (s.setPending ws).PortOk :=
  h.of_same rfl rfl id

theorem ArmEffect.portOk (heffect : ArmEffect s t) (hinv : s.Inv) (hport : s.PortOk) : t.PortOk := by
  cases heffect with
  | skip => exact hport
  | goto => exact hport.of_same rfl rfl id
  | discard => exact hport.of_same rfl rfl id
  | append => exact hport.of_same rfl rfl id
  | finish _ hsome => exact (decodeOp_portOk hinv hsome).of_same rfl rfl id

theorem pollOp_portOk (hinv : s.Inv) (hport : s.PortOk) (l : Level) (n : Duration) : (pollOp l n s).PortOk := by
  rcases pollOp_cases l s n with ⟨-, hp⟩ | ⟨-, -, hp⟩ | ⟨-, -, hp⟩ <;> rw [hp]
  · exact hport.of_same rfl rfl id
  · exact hport
  · exact (deliverEvent_effect n l _).portOk (hinv.strobeCounter.setPrevLevel l) (hport.of_same rfl rfl id)

/-- Settles O50: a record is written by DECODE at the end of a frame, where I2 bounds what is stored, or by RESET. -/
theorem stepKeepsResultPortLegal : Obligations.StepKeepsResultPortLegal := by
  intro s t hinv hport hstep
  rcases step_cases s with ⟨-, hs⟩ | ⟨w, ws, -, ⟨-, hs⟩ | ⟨-, hs⟩ | ⟨l, n, -, hs⟩ | ⟨d, l, -, hs⟩ | ⟨-, hs⟩⟩ <;>
    rw [hs] at hstep <;> cases hstep
  · exact hport
  · exact hport.of_same rfl rfl id
  · exact .of_zero rfl rfl
  · exact pollOp_portOk (hinv.setPending ws) (hport.setPending ws) l n
  · exact (deliverEvent_effect d l _).portOk (hinv.setPending ws) (hport.setPending ws)
  · exact hport.of_same rfl rfl (by simp)

end Sys2Proof.Machine
end

section
/-!
PROOF. What the spec leaves unspecified is never read (10_state.md R15, R18; 93_implementation_defined.md U1, U2): every
operation takes two states that agree on everything specified to two such states.
-/

namespace Sys2Proof.Machine

variable {s t : State}

/-! ## The shared operations -/

theorem Agree.setFsm (h : Agree s t) (f : FrameState) : Agree (s.setFsm f) (t.setFsm f) :=
  { h with fsm := rfl }

theorem Agree.setPrevLevel (h : Agree s t) (l : Level) : Agree (s.setPrevLevel l) (t.setPrevLevel l) :=
  { h with prevLevel := fun _ => rfl }

/-- The first poll makes the level a specified one. -/
theorem Agree.latchLevel (h : Agree s t) (l : Level) : Agree (s.latchLevel l) (t.latchLevel l) :=
  { h with prevValid := rfl, prevLevel := fun _ => rfl }

theorem Agree.strobeCounter (h : Agree s t) : Agree s.strobeCounter t.strobeCounter :=
  { h with counterResets := congrArg (· + 1) h.counterResets }

theorem Agree.setPending (h : Agree s t) (ws : List TxnWord) : Agree (s.setPending ws) (t.setPending ws) :=
  { h with pending := rfl }

theorem Agree.markRefused (h : Agree s t) : Agree s.markRefused t.markRefused :=
  { h with refused := rfl }

theorem Agree.clearFlags (h : Agree s t) : Agree s.clearFlags t.clearFlags :=
  { h with resValid := rfl, resOverrun := rfl }

theorem Agree.clearPayload (h : Agree s t) : Agree s.clearPayload t.clearPayload :=
  { h with plen := rfl, payload := by rw [State.clearPayload_payload, State.clearPayload_payload] }

theorem Agree.appendDuration (h : Agree s t) (d : Duration) : Agree (s.appendDuration d) (t.appendDuration d) :=
  { h with
    plen := by rw [State.appendDuration_plen, State.appendDuration_plen, h.plen]
    payload := by rw [State.appendDuration_payload, State.appendDuration_payload, h.plen, h.payload] }

/-- RESET leaves free values where no level has been observed and no duration is stored. -/
theorem Agree.applyReset (h : Agree s t) : Agree s.applyReset t.applyReset :=
  { h with
    prevValid := rfl
    prevLevel := fun hvalid => absurd hvalid (by simp)
    fsm := rfl
    plen := rfl
    payload := by rw [State.applyReset_payload, State.applyReset_payload]
    resValid := rfl
    resOverrun := rfl
    res := rfl }

/-- A dump reads `PBUF` through the payload. -/
theorem Agree.withDump (h : Agree s t) (r : ResultRecord) : r.withDump s = r.withDump t := by
  simp only [ResultRecord.withDump, State.dumpCells, State.storedLen, h.plen, h.payload]

/-- And so does the decoder. -/
theorem Agree.decodeOp (h : Agree s t) : Agree (decodeOp s) (decodeOp t) :=
  { h with
    resValid := rfl
    resOverrun := congrArg₂ (· || ·) h.resValid h.resOverrun
    res := by rw [decodeOp_res, decodeOp_res, h.withDump, h.plen, h.payload, h.cfgChannel] }

theorem Agree.view (h : Agree s t) : s.view = t.view := by
  rw [State.view, State.view, h.res, h.resValid, h.resOverrun]

/-! ## Events, polls and steps -/

/-- A guarded operation on two states that agree, where the guard reads specified fields only. -/
theorem Agree.ite {c : Prop} [Decidable c] {s' t' : State} (hthen : Agree s t) (helse : Agree s' t') :
    Agree (if c then s else s') (if c then t else t') := by
  split
  · exact hthen
  · exact helse

theorem Agree.performArm (h : Agree s t) (a : Arm) (d : Duration) (p : Level) :
    Agree (performArm a d p s) (performArm a d p t) := by
  cases a <;> simp only [Machine.performArm, armIdleSync, armIdleStay, armPreOk, armPreAbandon, armPulseOk, armPulseFail,
    armDataEof, armDataBit, armDataFail, h.fsm, h.plen]
  case idleSync => exact .ite (h.setFsm _) h
  case idleStay => exact h
  case preOk => exact .ite (h.setFsm _) h
  case preAbandon => exact .ite (h.setFsm _) h
  case pulseOk => exact .ite (h.setFsm _) h
  case pulseFail => exact .ite (h.clearPayload.setFsm _) h
  case dataEof => exact .ite ((Agree.ite h.decodeOp h).clearPayload.setFsm _) h
  case dataBit => exact .ite ((h.appendDuration d).setFsm _) h
  case dataFail => exact .ite (h.clearPayload.setFsm _) h

theorem Agree.deliverEvent (h : Agree s t) (d : Duration) (l : Level) :
    Agree (deliverEvent d l s) (deliverEvent d l t) := by
  rw [Machine.deliverEvent, Machine.deliverEvent, h.fsm]
  exact h.performArm _ d _

/-- The level is compared only once one has been observed. -/
theorem Agree.pollOp (h : Agree s t) (l : Level) (n : Duration) : Agree (pollOp l n s) (pollOp l n t) := by
  rcases pollOp_cases l s n with ⟨hfirst, hp⟩ | ⟨hvalid, hsame, hp⟩ | ⟨hvalid, hedge, hp⟩ <;> rw [hp]
  · rw [pollOp_first n (h.prevValid ▸ hfirst)]
    exact (h.latchLevel l).strobeCounter
  · rw [pollOp_unchanged n (h.prevValid ▸ hvalid) (h.prevLevel hvalid ▸ hsame)]
    exact h
  · rw [pollOp_changed n (h.prevValid ▸ hvalid) (h.prevLevel hvalid ▸ hedge)]
    exact (h.strobeCounter.setPrevLevel l).deliverEvent n l

theorem Agree.step (h : Agree s t) : ∃ s' t', step s = .next s' ∧ step t = .next t' ∧ Agree s' t' := by
  cases hp : t.pending with
  | nil => exact ⟨s, t, step_yield (h.pending.trans hp), step_yield hp, h⟩
  | cons w ws =>
    have hps := h.pending.trans hp
    have hws := h.setPending ws
    rcases decodeTxn_cases w with hw | ⟨l, n, hw⟩ | ⟨d, l, hw⟩ | hw | hw
    · exact ⟨_, _, step_run hps hw, step_run hp hw, hws.applyReset⟩
    · exact ⟨_, _, step_run hps hw, step_run hp hw, hws.pollOp l n⟩
    · exact ⟨_, _, step_run hps hw, step_run hp hw, hws.deliverEvent d l⟩
    · exact ⟨_, _, step_run hps hw, step_run hp hw, hws.clearFlags⟩
    · exact ⟨_, _, step_rejected hps hw, step_rejected hp hw, hws.markRefused⟩

/-- Settles O53: `Agree.step`, and what the host reads is specified. -/
theorem unspecifiedValuesAreNeverRead : Obligations.UnspecifiedValuesAreNeverRead := by
  intro s t h
  obtain ⟨s', t', hs, ht, hagree⟩ := h.step
  exact ⟨s', t', hs, ht, hagree, hagree.view⟩

end Sys2Proof.Machine
end

section
/-!
PROOF. EVENT (42_frame_synchronizer.md R65 to R75): the arm it performs, what it does in each frame state, and what it
leaves alone; the arms outside their conditions; the overlaps of the windows (41_pulse_classifier.md R64); and the
sampler's relation of the pin and the frame state (R77).
-/

namespace Sys2Proof.Machine

/-! ## EVENT and its arm -/

/-- Settles O7: EVENT is `performArm`, and an arm that its own selector takes is well-formed. -/
theorem eventPerformsSelectedArm : Obligations.EventPerformsSelectedArm := by
  intro s d l
  refine ⟨(exec_toInstr _ d l.flip s).symm, (wellFormed_toInstr_iff _ d l.flip).2 ?_⟩
  rw [selectArm_state]

/-- Settles O15: EVENT is `deliverEvent`, whose frame is `deliverEvent_frame`. -/
theorem eventLeavesSamplerAlone : Obligations.EventLeavesSamplerAlone := by
  intro s d l
  obtain ⟨hvalid, hlevel, hrefused, hchannel, hpending, hcount, hfree⟩ := deliverEvent_frame d l s
  exact ⟨_, exec_event d l s, hlevel, hvalid, hcount, hrefused, hchannel, hpending, hfree⟩

/-! ## EVENT in each frame state -/

section
variable {s : State} {d : Duration} (l : Level)

theorem deliverEvent_sync (hs : s.fsm = .pulseIdle) (hd : 300 ≤ d.toNat ∧ d.toNat ≤ 600) :
    deliverEvent d .low s = s.setFsm .preamble := by
  rw [deliverEvent_pulseIdle d .low s hs, if_pos ⟨rfl, (syncHit_iff d).2 hd⟩]

theorem deliverEvent_preamble_gap (hs : s.fsm = .preamble) (hd : 2000 ≤ d.toNat ∧ d.toNat ≤ 8000) :
    deliverEvent d l s = s.setFsm .pulse := by
  rw [deliverEvent_preamble d l s hs, if_pos ((preHit_iff d).2 hd)]

theorem deliverEvent_preamble_other (hs : s.fsm = .preamble) (hd : ¬ (2000 ≤ d.toNat ∧ d.toNat ≤ 8000)) :
    deliverEvent d l s = s.setFsm .pulseIdle := by
  rw [deliverEvent_preamble d l s hs, if_neg (mt (preHit_iff d).1 hd)]

theorem deliverEvent_bit_pulse (hs : s.fsm = .pulse) (hd : 300 ≤ d.toNat ∧ d.toNat ≤ 600) :
    deliverEvent d l s = s.setFsm .data := by
  rw [deliverEvent_pulse d l s hs, if_pos ((syncHit_iff d).2 hd)]

theorem deliverEvent_pulse_other (hs : s.fsm = .pulse) (hd : ¬ (300 ≤ d.toNat ∧ d.toNat ≤ 600)) :
    deliverEvent d l s = s.clearPayload.setFsm .pulseIdle := by
  rw [deliverEvent_pulse d l s hs, if_neg (mt (syncHit_iff d).1 hd)]

theorem deliverEvent_end_empty (hs : s.fsm = .data) (hd : 3000 ≤ d.toNat ∧ d.toNat ≤ 8000) (hempty : s.plen = 0) :
    deliverEvent d l s = s.setFsm .pulseIdle := by
  rw [deliverEvent_data d l s hs, if_pos ((eofHit_iff d).2 hd), if_neg (not_not_intro hempty),
    State.clearPayload_of_empty hempty]

theorem deliverEvent_end (hs : s.fsm = .data) (hd : 3000 ≤ d.toNat ∧ d.toNat ≤ 8000) (hsome : s.plen ≠ 0) :
    deliverEvent d l s = (decodeOp s).clearPayload.setFsm .pulseIdle := by
  rw [deliverEvent_data d l s hs, if_pos ((eofHit_iff d).2 hd), if_pos hsome]

theorem deliverEvent_bit_gap (hs : s.fsm = .data) (hd : 800 ≤ d.toNat ∧ d.toNat ≤ 2150) :
    deliverEvent d l s = (s.appendDuration d).setFsm .pulse := by
  have hbit := (bitHit_iff d).2 hd
  have heof : ¬ eofHit params d = true := fun heof => not_eofHit_and_bitHit d ⟨heof, hbit⟩
  rw [deliverEvent_data d l s hs, if_neg heof, if_pos hbit]

theorem deliverEvent_data_other (hs : s.fsm = .data) (heof : ¬ (3000 ≤ d.toNat ∧ d.toNat ≤ 8000))
    (hbit : ¬ (800 ≤ d.toNat ∧ d.toNat ≤ 2150)) : deliverEvent d l s = s.clearPayload.setFsm .pulseIdle := by
  rw [deliverEvent_data d l s hs, if_neg (mt (eofHit_iff d).1 heof), if_neg (mt (bitHit_iff d).1 hbit)]

end

/-- Settles O14: the equations of EVENT above, one for each clause or for each side of a clause's test. -/
theorem eventAdvancesTheAutomaton : Obligations.EventAdvancesTheAutomaton := by
  intro s d l
  rw [exec_event]
  refine ⟨fun hs => ?idle, fun hs => ?preamble, fun hs => ?pulse, fun hs hd hempty => ?endEmpty,
    fun hs hd hsome => ⟨decodeOp s, exec_decode s, ?endSome⟩, fun hs hd => ?gap, fun hs heof hbit => ?other⟩
  case idle =>
    split
    case isTrue hfall =>
      obtain ⟨rfl, hd⟩ := hfall
      rw [deliverEvent_sync hs hd]; rfl
    case isFalse hnoise => rw [deliverEvent_noise hs hnoise]
  case preamble =>
    split
    case isTrue hd => rw [deliverEvent_preamble_gap l hs hd]; rfl
    case isFalse hd => rw [deliverEvent_preamble_other l hs hd]; rfl
  case pulse =>
    split
    case isTrue hd => rw [deliverEvent_bit_pulse l hs hd]; rfl
    case isFalse hd => rw [deliverEvent_pulse_other l hs hd]; rfl
  case endEmpty => rw [deliverEvent_end_empty l hs hd hempty]; rfl
  case endSome => rw [deliverEvent_end l hs hd hsome]; rfl
  case gap => rw [deliverEvent_bit_gap l hs hd]; rfl
  case other => rw [deliverEvent_data_other l hs heof hbit]; rfl

/-- Settles O26: each arm is guarded by its rule's condition, the windows as numbers. -/
theorem armOutsideItsConditionDoesNothing : Obligations.ArmOutsideItsConditionDoesNothing := by
  intro s d p
  simp only [← syncHit_iff, ← preHit_iff, ← eofHit_iff, ← bitHit_iff]
  exact ⟨fun hnot => congrArg _ (if_neg hnot), exec_idleStay d p s, fun hnot => congrArg _ (if_neg hnot),
    fun hnot => congrArg _ (if_neg hnot), fun hnot => congrArg _ (if_neg hnot), fun hnot => congrArg _ (if_neg hnot),
    fun hnot => congrArg _ (if_neg hnot), fun hnot => congrArg _ (if_neg hnot), fun hnot => congrArg _ (if_neg hnot)⟩

/-! ## The windows against each other -/

/-- Settles O10: every predicate as its interval, and then arithmetic over the bounds. -/
theorem classifierOverlaps : Obligations.ClassifierOverlaps := by
  intro d
  simp only [Bool.eq_false_iff, ne_eq, syncHit_iff, preHit_iff, eofHit_iff, oneHit_iff, zeroHit_iff, bitHit_iff]
  omega

/-! ## The pin under the sampler -/

section
variable {s t : State}

/-- The relation says nothing of `PulseIdle`. -/
theorem State.SamplerInv.of_pulseIdle (hs : s.fsm = .pulseIdle) : s.SamplerInv where
  gap_low h := by simp [hs] at h
  pulse_high h := by simp [hs] at h

theorem State.SamplerInv.of_gap (hvalid : s.prevValid = true) (hlevel : s.prevLevel = .low)
    (hs : s.fsm = .preamble ∨ s.fsm = .data) : s.SamplerInv where
  gap_low _ := ⟨hvalid, hlevel⟩
  pulse_high h := by simp [h] at hs

theorem State.SamplerInv.of_pulse (hvalid : s.prevValid = true) (hlevel : s.prevLevel = .high)
    (hs : s.fsm = .pulse) : s.SamplerInv where
  gap_low h := by simp [hs] at h
  pulse_high _ := ⟨hvalid, hlevel⟩

/-- The relation speaks of the frame state and the sampler only. -/
theorem State.SamplerInv.of_same (h : s.SamplerInv) (hfsm : t.fsm = s.fsm) (hvalid : t.prevValid = s.prevValid)
    (hlevel : t.prevLevel = s.prevLevel) : t.SamplerInv where
  gap_low := by rw [hfsm, hvalid, hlevel]; exact h.gap_low
  pulse_high := by rw [hfsm, hvalid, hlevel]; exact h.pulse_high

/-- Before the first poll the automaton is in `PulseIdle`. -/
theorem State.SamplerInv.fsm_of_not_valid (h : s.SamplerInv) (hfirst : s.prevValid = false) : s.fsm = .pulseIdle := by
  have hnotValid : s.prevValid ≠ true := Bool.eq_false_iff.1 hfirst
  cases hs : s.fsm with
  | pulseIdle => rfl
  | preamble => exact absurd (h.gap_low (.inl hs)).1 hnotValid
  | pulse => exact absurd (h.pulse_high hs).1 hnotValid
  | data => exact absurd (h.gap_low (.inr hs)).1 hnotValid

theorem Level.eq_high_of_ne_low {l : Level} (h : l ≠ .low) : l = .high := by
  cases l
  · exact absurd rfl h
  · rfl

theorem Level.eq_low_of_ne_high {l : Level} (h : l ≠ .high) : l = .low := by
  cases l
  · rfl
  · exact absurd rfl h

/-- An edge to the level `l` that the sampler delivers: it leaves `Pulse` for a gap and a gap for `Pulse`, so the pin is
at the level that the next frame state asks for. -/
theorem deliverEvent_samplerInv (d : Duration) {l : Level} (hvalid : s.prevValid = true) (hlevel : s.prevLevel = l)
    (hgap : s.fsm = .preamble ∨ s.fsm = .data → l = .high) (hpulse : s.fsm = .pulse → l = .low) :
    (deliverEvent d l s).SamplerInv := by
  cases hs : s.fsm with
  | pulseIdle =>
    rw [deliverEvent_pulseIdle d l s hs]
    split
    case isTrue hfall => exact .of_gap hvalid (hlevel.trans hfall.1) (.inl rfl)
    case isFalse => exact .of_pulseIdle hs
  | preamble =>
    rw [deliverEvent_preamble d l s hs]
    split
    case isTrue => exact .of_pulse hvalid (hlevel.trans (hgap (.inl hs))) rfl
    case isFalse => exact .of_pulseIdle rfl
  | pulse =>
    rw [deliverEvent_pulse d l s hs]
    split
    case isTrue => exact .of_gap hvalid (hlevel.trans (hpulse hs)) (.inr rfl)
    case isFalse => exact .of_pulseIdle rfl
  | data =>
    rw [deliverEvent_data d l s hs]
    split
    case isTrue => exact .of_pulseIdle rfl
    case isFalse =>
      split
      case isTrue => exact .of_pulse hvalid (hlevel.trans (hgap (.inr hs))) rfl
      case isFalse => exact .of_pulseIdle rfl

theorem pollOp_samplerInv (h : s.SamplerInv) (l : Level) (n : Duration) : (pollOp l n s).SamplerInv := by
  rcases pollOp_cases l s n with ⟨hfirst, hp⟩ | ⟨-, -, hp⟩ | ⟨hvalid, hedge, hp⟩ <;> rw [hp]
  · exact .of_pulseIdle (h.fsm_of_not_valid hfirst)
  · exact h
  · refine deliverEvent_samplerInv n hvalid rfl (fun hs => ?rising) (fun hs => ?falling)
    case rising =>
      rw [(h.gap_low hs).2] at hedge
      exact Level.eq_high_of_ne_low hedge
    case falling =>
      rw [(h.pulse_high hs).2] at hedge
      exact Level.eq_low_of_ne_high hedge

end

/-- Settles O52: POLL by `pollOp_samplerInv`; RESET leaves `PulseIdle`, and ACK touches the two status bits only. -/
theorem samplerKeepsPulsesAndGapsApart : Obligations.SamplerKeepsPulsesAndGapsApart := by
  intro s t i hinv hi h
  rcases hi with ⟨l, n, rfl⟩ | rfl | rfl
  · cases eq_of_exec_eq (exec_poll l n s) h; exact pollOp_samplerInv hinv l n
  · cases eq_of_exec_eq (exec_reset s) h; exact .of_pulseIdle rfl
  · cases eq_of_exec_eq (exec_ack s) h; exact hinv.of_same rfl rfl rfl

/-- Settles O51: nothing is stored, the record is the all-zero one and not valid, and the automaton is in `PulseIdle`. -/
theorem launchStateMeetsInvariants : Obligations.LaunchStateMeetsInvariants :=
  ⟨State.reset_inv, .of_zero rfl rfl, .of_pulseIdle rfl⟩

end Sys2Proof.Machine
end

section
/-!
PROOF. The packed record (30_encoding.md R48 to R50): each field is a slice of RES0, so unpacking loses nothing.
-/

namespace Sys2Proof.Machine

theorem kindOfCode_kindCode (k : ResultKind) : kindOfCode (kindCode k) = some k := by
  cases k <;> rfl

/-- The slices of RES0, from bit 0 up (R49): what lies below a field is passed over, what lies above it is left out. -/
theorem res0_slices (r : ResultRecord) :
    r.res0.extractLsb' 0 3 = kindCode r.kind ∧ r.res0.extractLsb' 3 5 = 0 ∧ r.res0.extractLsb' 8 8 = r.id ∧
      r.res0.extractLsb' 16 1 = r.batteryOk ∧ r.res0.extractLsb' 17 3 = r.channel ∧
      r.res0.extractLsb' 20 13 = r.tempTenths ∧ r.res0.extractLsb' 33 9 = r.tempInt ∧
      r.res0.extractLsb' 42 4 = r.tempFrac ∧ r.res0.extractLsb' 46 7 = r.humidity ∧
      r.res0.extractLsb' 53 6 = r.dumpLen ∧ r.res0.extractLsb' 59 5 = 0 := by
  unfold ResultRecord.res0
  simp (disch := decide) only [BitVec.extractLsb'_append_eq_of_le, BitVec.extractLsb'_append_eq_of_add_le]
  simp

/-- STATUS is its two bits (R49). -/
theorem status_bits (s : State) : s.status.getLsbD 0 = s.resValid ∧ s.status.getLsbD 1 = s.resOverrun := by
  rw [State.status]
  cases s.resValid <;> cases s.resOverrun <;> decide

/-- Settles O41: the slices of RES0, and the other words as they are. -/
theorem packedRecordFieldPositions : Obligations.PackedRecordFieldPositions := by
  refine ⟨fun r => ?record, status_bits, rfl, rfl, rfl, rfl, rfl⟩
  obtain ⟨hkind, hlow, hid, hbattery, hchannel, htenths, hint, hfrac, hhumidity, hlen, hhigh⟩ := res0_slices r
  exact ⟨hkind, hlow, hid, hbattery, hchannel, htenths, hint, hfrac, hhumidity, hlen, hhigh, rfl, fun _ => rfl⟩

/-- Settles O42: the reserved slices read 0, the kind's code gives the kind, and every other field is its slice. -/
theorem packedRecordRoundTrip : Obligations.PackedRecordRoundTrip := by
  intro r
  obtain ⟨hkind, hlow, hid, hbattery, hchannel, htenths, hint, hfrac, hhumidity, hlen, hhigh⟩ := res0_slices r
  rw [unpackRecord, if_pos ⟨hhigh, hlow⟩, hkind, kindOfCode_kindCode, hid, hbattery, hchannel, htenths, hint, hfrac,
    hhumidity, hlen, ResultRecord.res1]

end Sys2Proof.Machine
end

section
/-!
PROOF. The parameter record (00_scope.md R7, R8) and the host's side: the external counter (40_sampler.md R54,
70_reset_and_hazards.md R116) and the text record (45_result_port.md R96).
-/

namespace Sys2Proof.Machine

/-! ## The parameters -/

/-- The open width of the counter is one of 13 to 32 (R7, R8). -/
theorem counterBits_range : 13 ≤ Config.counterBits ∧ Config.counterBits ≤ 32 := by
  unfold Config.counterBits
  omega

theorem params_valid : params.Valid where
  sync_ordered := by decide
  pre_ordered := by decide
  eof_ordered := by decide
  one_ordered := by decide
  zero_ordered := by decide
  sync_misses_bits := .inl (by decide)
  eof_misses_bits := .inr (by decide)
  saturated_not_frame := by decide
  frame_fits := by decide
  counter_fits := counterBits_range.2
  counter_wide := counterBits_range.1

/-- `ZERO_MAX` is in one constraint only: the logical-0 window is an interval. -/
theorem paramsZero1000_valid : paramsZero1000.Valid :=
  { params_valid with zero_ordered := by decide }

/-- Settles O8: the record by its constraints, the types by the widths they are built from. -/
theorem parametersMeetConstraints : Obligations.ParametersMeetConstraints :=
  ⟨params_valid, paramsZero1000_valid, rfl, rfl, rfl, rfl, rfl, rfl, rfl, counterBits_range.2, rfl, duration_lt,
    fun s => ⟨s.plen_lt, s.pbuf.length_toList⟩⟩

/-! ## The counter -/

/-- A reading is the elapsed microseconds modulo the counter's width, which fits a duration. -/
theorem counterReading_toNat (e : Nat) : (counterReading params e).toNat = e % 2 ^ Config.counterBits := by
  have hlt : e % 2 ^ Config.counterBits < 2 ^ 32 :=
    (Nat.mod_lt e (Nat.two_pow_pos _)).trans_le (Nat.pow_le_pow_right (by decide) counterBits_range.2)
  rw [counterReading, params_tick, params_counterBits, Nat.div_one, BitVec.toNat_ofNat, Nat.mod_eq_of_lt hlt]

/-- Settles O56: 13 bits hold 8000 already, and a further `2^COUNTER_BITS` is lost in the modulus. -/
theorem counterReadsWindowsExactly : Obligations.CounterReadsWindowsExactly := by
  refine ⟨fun e he => ?exact, fun e => BitVec.eq_of_toNat_eq ?wraps⟩
  case exact =>
    have hwidth : 2 ^ 13 ≤ 2 ^ Config.counterBits := Nat.pow_le_pow_right (by decide) counterBits_range.1
    rw [counterReading_toNat, Nat.mod_eq_of_lt (by omega)]
  case wraps => rw [counterReading_toNat, counterReading_toNat, params_counterBits, Nat.add_mod_left]

/-! ## The text record -/

theorem char_ofNat_eq_digitChar {n : Nat} (hn : n < 10) : Char.ofNat (48 + n) = n.digitChar := by
  revert n
  decide

/-- The model's digits are the library's, fuel for fuel. -/
theorem digitsOf_eq_toDigitsCore (fuel n : Nat) (acc : List Char) :
    digitsOf fuel n acc = Nat.toDigitsCore 10 fuel n acc := by
  induction fuel generalizing n acc with
  | zero => rfl
  | succ fuel ih =>
    rw [digitsOf, Nat.toDigitsCore, char_ofNat_eq_digitChar (Nat.mod_lt n (by decide)), ih]

theorem ofList_digitsOf (n : Nat) : String.ofList (digitsOf (n + 1) n []) = toString n := by
  rw [digitsOf_eq_toDigitsCore, Nat.toString_eq_ofList_toDigits, Nat.toDigits]

theorem dec_natCast (n : Nat) : dec n = toString n := by
  rw [dec, Int.natAbs_natCast, ofList_digitsOf, if_neg (by omega)]

/-- `dec(n)` is decimal spelling with a leading minus below zero (decision D19), as the library spells an integer. -/
theorem dec_eq_toString (i : Int) : dec i = toString i := by
  cases i with
  | ofNat n => exact dec_natCast n
  | negSucc n =>
    rw [dec, if_pos (Int.negSucc_lt_zero n), ofList_digitsOf]
    rfl

/-- Settles O57: each number of the text is spelled by `dec`. -/
theorem renderWritesTheTextRecord : Obligations.RenderWritesTheTextRecord := by
  refine fun r time => ⟨fun hreading => ?text, fun hother => if_neg hother⟩
  simp only [render, if_pos hreading, dec_natCast, dec_eq_toString r.tempInt.toInt]

end Sys2Proof.Machine
end

section
/-!
PROOF. A frame on the air (30_encoding.md R38): its gaps are appended one after another, and its end decodes them.
-/

namespace Sys2Proof.Machine

/-! ## Appending a sequence of durations -/

/-- The state after the durations `ds` have been appended, the first first. -/
def State.appendAll (s : State) (ds : List Duration) : State := ds.foldl State.appendDuration s

section
variable (s : State) (ds : List Duration)

@[simp] theorem State.appendAll_nil : s.appendAll [] = s := rfl

@[simp] theorem State.appendAll_cons (d : Duration) :
    s.appendAll (d :: ds) = (s.appendDuration d).appendAll ds := rfl

/-- The length counts every duration, up to 65535 (R17). -/
theorem State.appendAll_plen_toNat :
    (s.appendAll ds).plen.toNat = min (s.plen.toNat + ds.length) 65535 := by
  induction ds generalizing s with
  | nil =>
    have hlt := s.plen_lt
    simp only [appendAll_nil, List.length_nil]
    omega
  | cons d ds ih =>
    rw [appendAll_cons, ih, appendDuration_plen_toNat, List.length_cons]
    omega

/-- The payload keeps the first 36 durations (R17, R74). -/
theorem State.appendAll_payload : (s.appendAll ds).payload = (s.payload ++ ds).take 36 := by
  induction ds generalizing s with
  | nil =>
    rw [appendAll_nil, List.append_nil, List.take_of_length_le]
    rw [payload_length]
    exact s.storedLen_le
  | cons d ds ih =>
    rw [appendAll_cons, ih, appendDuration_payload]
    split
    case isTrue => rw [List.append_assoc, List.singleton_append]
    case isFalse hfull =>
      have hlen : 36 ≤ s.payload.length := by
        rw [payload_length, storedLen]
        exact Nat.le_min.2 ⟨Nat.le_of_not_lt hfull, Nat.le_refl _⟩
      rw [List.take_append_of_le_length hlen, List.take_append_of_le_length hlen]

/-- From an empty payload: the length and the payload are those of the durations. -/
theorem State.appendAll_of_empty (hempty : s.plen = 0) :
    (s.appendAll ds).plen.toNat = min ds.length 65535 ∧ (s.appendAll ds).payload = ds.take 36 := by
  have hzero : s.plen.toNat = 0 := congrArg BitVec.toNat hempty
  have hnone : s.payload = [] := by rw [← clearPayload_of_empty hempty, clearPayload_payload]
  rw [appendAll_plen_toNat, appendAll_payload, hzero, hnone, Nat.zero_add, List.nil_append]
  exact ⟨rfl, rfl⟩

/-- Appending touches the payload only. -/
theorem State.appendAll_frame :
    (s.appendAll ds).resValid = s.resValid ∧ (s.appendAll ds).resOverrun = s.resOverrun ∧
      (s.appendAll ds).cfgChannel = s.cfgChannel := by
  induction ds generalizing s with
  | nil => exact ⟨rfl, rfl, rfl⟩
  | cons d ds ih => exact ih (s.appendDuration d)

end

@[simp] theorem State.setFsm_setFsm (s : State) (f g : FrameState) : (s.setFsm f).setFsm g = s.setFsm g := rfl

theorem State.setFsm_of_fsm {s : State} {f : FrameState} (hs : s.fsm = f) : s.setFsm f = s := by
  subst hs
  rfl

theorem State.setFsm_appendDuration (s : State) (f : FrameState) (d : Duration) :
    (s.setFsm f).appendDuration d = (s.appendDuration d).setFsm f := rfl

/-! ## Running a frame -/

/-- A run is a run of its first part and then of the rest: no instruction stops it. -/
theorem runInstrs_append {xs : List Instr} (ys : List Instr) {s t : State} (h : runInstrs xs s = .next t) :
    runInstrs (xs ++ ys) s = runInstrs ys t := by
  induction xs generalizing s with
  | nil => cases h; rfl
  | cons i xs ih =>
    obtain ⟨u, hu⟩ := exec_continues i s
    rw [runInstrs_cons xs hu] at h
    rw [List.cons_append, runInstrs_cons _ hu, ih h]

theorem exec_hi (d : Duration) (s : State) : exec (hi d) s = .next (deliverEvent d .low s) := rfl

theorem exec_lo (d : Duration) (s : State) : exec (lo d) s = .next (deliverEvent d .high s) := rfl

/-- A pulse and a gap, two events of which each is delivered. -/
theorem runInstrs_hi_lo (pulse gap : Duration) (is : List Instr) (s : State) :
    runInstrs (hi pulse :: lo gap :: is) s = runInstrs is (deliverEvent gap .high (deliverEvent pulse .low s)) := by
  rw [runInstrs_cons _ (exec_hi pulse s), runInstrs_cons _ (exec_lo gap _)]

/-- The sync pulse and the preamble gap open the payload. -/
theorem deliver_preamble {s : State} {sync pregap : Duration} (hs : s.fsm = .pulseIdle)
    (hsync : 300 ≤ sync.toNat ∧ sync.toNat ≤ 600) (hpregap : 2000 ≤ pregap.toNat ∧ pregap.toNat ≤ 8000) :
    deliverEvent pregap .high (deliverEvent sync .low s) = s.setFsm .pulse := by
  rw [deliverEvent_sync hs hsync, deliverEvent_preamble_gap .high rfl hpregap, State.setFsm_setFsm]

/-- A bit pulse and a bit gap append the gap. -/
theorem deliver_bit (s : State) {pulse gap : Duration} (hpulse : 300 ≤ pulse.toNat ∧ pulse.toNat ≤ 600)
    (hgap : 800 ≤ gap.toNat ∧ gap.toNat ≤ 2150) :
    deliverEvent gap .high (deliverEvent pulse .low (s.setFsm .pulse)) = (s.appendDuration gap).setFsm .pulse := by
  rw [deliverEvent_bit_pulse .low rfl hpulse, State.setFsm_setFsm, deliverEvent_bit_gap .high rfl hgap,
    State.setFsm_appendDuration, State.setFsm_setFsm]

/-- The bits of a frame append their gaps, by induction on the bits. -/
theorem runInstrs_bits {bits : List (Duration × Duration)}
    (hbits : ∀ b ∈ bits, (300 ≤ b.1.toNat ∧ b.1.toNat ≤ 600) ∧ (800 ≤ b.2.toNat ∧ b.2.toNat ≤ 2150)) (s : State) :
    runInstrs (bits.flatMap (fun b => [hi b.1, lo b.2])) (s.setFsm .pulse) =
      .next ((s.appendAll (bits.map Prod.snd)).setFsm .pulse) := by
  induction bits generalizing s with
  | nil => rfl
  | cons b bits ih =>
    obtain ⟨⟨hpulse, hgap⟩, hbits⟩ := List.forall_mem_cons.1 hbits
    rw [List.flatMap_cons, List.cons_append, List.singleton_append, runInstrs_hi_lo, deliver_bit s hpulse hgap, ih hbits,
      List.map_cons, State.appendAll_cons]

/-- A frame up to its last event: the trailing pulse leaves the automaton in `Data` with all gaps appended, and there the
end-of-frame gap is delivered. -/
theorem runInstrs_frameEvents {s : State} {sync pregap trail : Duration} {bits : List (Duration × Duration)}
    (hs : s.fsm = .pulseIdle) (hsync : 300 ≤ sync.toNat ∧ sync.toNat ≤ 600)
    (hpregap : 2000 ≤ pregap.toNat ∧ pregap.toNat ≤ 8000)
    (hbits : ∀ b ∈ bits, (300 ≤ b.1.toNat ∧ b.1.toNat ≤ 600) ∧ (800 ≤ b.2.toNat ∧ b.2.toNat ≤ 2150))
    (htrail : 300 ≤ trail.toNat ∧ trail.toNat ≤ 600) (eofgap : Duration) :
    runInstrs (frameEvents sync pregap bits trail eofgap) s =
      .next (deliverEvent eofgap .high ((s.appendAll (bits.map Prod.snd)).setFsm .data)) := by
  have hopen : runInstrs [hi sync, lo pregap] s = .next (s.setFsm .pulse) := by
    rw [runInstrs_hi_lo, deliver_preamble hs hsync hpregap, runInstrs_nil]
  rw [frameEvents, List.append_assoc, runInstrs_append _ hopen, runInstrs_append _ (runInstrs_bits hbits s),
    runInstrs_hi_lo, deliverEvent_bit_pulse .low rfl htrail, State.setFsm_setFsm, runInstrs_nil]

/-- Settles O55: without a bit the end-of-frame gap meets an empty payload; otherwise it meets the gaps, of which the
length, the payload and so the decode and the dump are those of `State.appendAll` from an empty payload. -/
theorem frameHandsItsGapsToTheDecoder : Obligations.FrameHandsItsGapsToTheDecoder := by
  intro s sync pregap trail eofgap bits hs hempty hsync hpregap hbits htrail heof
  rw [runInstrs_frameEvents hs hsync hpregap hbits htrail]
  refine ⟨fun hnone => ?dropped, fun hsome => ?decoded⟩
  case dropped =>
    subst hnone
    rw [List.map_nil, State.appendAll_nil,
      deliverEvent_end_empty (s := s.setFsm .data) .high rfl heof hempty, State.setFsm_setFsm]
    exact congrArg _ (State.setFsm_of_fsm hs)
  case decoded =>
    obtain ⟨hvalid, hover, hchannel⟩ := s.appendAll_frame (bits.map Prod.snd)
    obtain ⟨hplen, hcells⟩ := s.appendAll_of_empty (bits.map Prod.snd) hempty
    rw [List.length_map] at hplen
    generalize s.appendAll (bits.map Prod.snd) = u at hvalid hover hchannel hplen hcells ⊢
    have hpos : 0 < bits.length := List.length_pos_iff.2 hsome
    have hne : u.plen ≠ 0 := fun hzero => by
      have hzero : u.plen.toNat = 0 := congrArg BitVec.toNat hzero
      omega
    refine ⟨_, congrArg _ (deliverEvent_end .high rfl heof hne), rfl, rfl, rfl,
      ?overrun, ?record, ?dumpLen, fun k => ?dump⟩
    case overrun => exact congrArg₂ (· || ·) hvalid hover
    case record => rw [← hplen, ← hcells, ← hchannel]; rfl
    case dumpLen =>
      refine (ResultRecord.withDump_dumpLen_toNat _ _).trans ?_
      show min u.plen.toNat 36 = _
      omega
    case dump =>
      refine (State.dumpCells_getElem _ k).trans ?_
      show u.payload.getD k.val 0 = _
      rw [hcells, List.getD_eq_getElem?_getD, List.getElem?_take_of_lt k.isLt, List.getD_eq_getElem?_getD]

end Sys2Proof.Machine
end
